-- ==== Sys2Proof/Word.lean ====
section
/-! DEFINITION. The words of the FB-C48: bytes, 16-bit and 32-bit registers. -/

namespace Sys2Proof

/-- One byte of a frame, or a one-byte register. -/
abbrev Byte := BitVec 8

/-- A 16-bit register or a word of the array. -/
abbrev Word16 := BitVec 16

/-- A 32-bit register. -/
abbrev Word32 := BitVec 32

end Sys2Proof
end

