-- ==== Sys2Proof/Config.lean ====
section
/-! DEFINITION. What the part fixes (capacities, codes, the names of its ports and images), the operand types of
the commands, and the values the manual leaves open. -/

namespace Sys2Proof

/-- The three ports (00_scope 4). -/
inductive Port where
  | a | b | c
deriving DecidableEq, Repr

/-- One value for each port. -/
structure PerPort (α : Type) where
  a : α
  b : α
  c : α
deriving DecidableEq, Repr

namespace PerPort

/-- The value of port `p`. -/
def get {α : Type} (x : PerPort α) : Port → α
  | .a => x.a
  | .b => x.b
  | .c => x.c

/-- `x` with port `p`'s value replaced. -/
def set {α : Type} (x : PerPort α) (p : Port) (v : α) : PerPort α :=
  match p with
  | .a => { x with a := v }
  | .b => { x with b := v }
  | .c => { x with c := v }

/-- Every port's value through `f`. -/
def map {α β : Type} (f : α → β) (x : PerPort α) : PerPort β := ⟨f x.a, f x.b, f x.c⟩

end PerPort

/-- A set of ports: a reporter set (R1) or the requesters of a save (R122). -/
abbrev PortSet := PerPort Bool

/-- The set of no port. -/
def PortSet.none : PortSet := ⟨false, false, false⟩

/-- The set of one port. -/
def PortSet.only (p : Port) : PortSet := PerPort.set PortSet.none p true

/-- Whether a port is in the set at all. -/
def PortSet.any (x : PortSet) : Bool := x.a || x.b || x.c

/-- The two retention images (R114). -/
inductive ImageId where
  | a | b
deriving DecidableEq, Repr

/-- The image that is not `i`. -/
def ImageId.other : ImageId → ImageId
  | .a => .b
  | .b => .a

/-- One value for each image. -/
structure PerImage (α : Type) where
  a : α
  b : α
deriving DecidableEq, Repr

namespace PerImage

/-- The value of image `i`. -/
def get {α : Type} (x : PerImage α) : ImageId → α
  | .a => x.a
  | .b => x.b

/-- `x` with image `i`'s value replaced. -/
def set {α : Type} (x : PerImage α) (i : ImageId) (v : α) : PerImage α :=
  match i with
  | .a => { x with a := v }
  | .b => { x with b := v }

end PerImage

/-- What brings the part to its reset state (R116): power-on, or the assertion of RST_N. -/
inductive ResetCause where
  /-- With the ports whose select is asserted: a frame in progress there is abandoned (R163). -/
  | powerOn (selected : PortSet)
  | rstN
deriving DecidableEq, Repr

/-- At the largest generation, how far the cancel of the older image had got (R130). -/
inductive CancelPoint where
  | notBegun | inPart | erased
deriving DecidableEq, Repr

/-- How far a save in flight had got when a reset or a loss of power met it (R130, log entry 13). -/
inductive CutPoint where
  /-- The erase of the header had not begun. -/
  | beforeErase
  /-- The header was being erased. -/
  | erasingHeader
  /-- The header was erased and the open marking not yet written. -/
  | headerErased
  /-- The open marking was written and the check word not, or the cancel after a failed read-back was in part done. -/
  | writing
  /-- The read-back had failed and the cancel had erased the header wholly. -/
  | cancelErased
  /-- At the largest generation: the check word was read back and the older header was being cancelled. -/
  | checkWritten (older : CancelPoint)
deriving DecidableEq, Repr

/-- Where in an image a word of the array has failed (R114, log entry 14). -/
inductive FaultPlace where
  | header
  | position (p : Nat)
deriving DecidableEq, Repr

/-- One word of the array changed by a fault: the sum of the words its check covers moves by `delta`. -/
structure ArrayFault where
  image : ImageId
  place : FaultPlace
  delta : Word16
deriving DecidableEq, Repr

/-- A PORT RESET frame: the whole bytes after its kind byte, and whether its release falls inside the request of the port's
own command, granted just before (R158, log entry 3). -/
structure ResetFrame where
  bytes : List Byte
  during : Bool
deriving DecidableEq, Repr

/-- One count of an accepted pulse: the input that accepted it and the counter it is handed to (R54, R67). -/
structure PulseCount where
  input : Fin 4
  counter : Fin 8
deriving DecidableEq, Repr

/-- How far LOAD_END brings the load: up to the hand-over of its LOAD record, still STARTING (R153), or to READY. -/
inductive LoadPoint where
  | record | ready
deriving DecidableEq, Repr

namespace Config

/-- Entries the table holds at most (R3). -/
def entries : Nat := 48

/-- Records the history ring holds at most (R93). -/
def historyRecords : Nat := 12

/-- IDENTIFY's vendor code 4E46h (R164). -/
def vendorCode : Word16 := 0x4E46

/-- IDENTIFY's part code C048h (R164). -/
def partCode : Word16 := 0xC048

/-- The format marker of this part's images. DESIGN CHOICE (log entry 6): the manual gives no value; no port sees it. -/
def formatMarker : Word16 := 0xC048

/-- The largest generation (R125). -/
def lastGeneration : Word32 := 0xFFFFFFFF

/-- FREE VALUE (log entry 12). R156 gives a PORT RESET frame that has a wrong second byte AND more than two bytes both
BAD_CHECK and OVERLONG; which of the two the part records is left open, for each such frame. -/
opaque longResetFrameIsOverlong (bytes : List Byte) : Bool

end Config

end Sys2Proof
end

