-- ==== Sys2Proof/Syntax.lean ====
section
/-! DEFINITION. The commands of the part: one constructor per row of the opcode table. -/

namespace Sys2Proof

/-- The steps of the part. A command of 10.2 names the port whose WAITING slot is granted: its code, tag and
parameters are the ones that slot holds (R150, R160, log entry 3). -/
inductive Instr where
  /-- IDENTIFY (R164). -/
  | identify (p : Port)
  /-- DEFINE (R8). -/
  | define (p : Port)
  /-- RETIRE (R10). -/
  | retire (p : Port)
  /-- TUNE (R14). -/
  | tune (p : Port)
  /-- CLEAR (R16). -/
  | clear (p : Port)
  /-- READ_ENTRY (R17). -/
  | readEntry (p : Port)
  /-- LIST (R18). -/
  | list (p : Port)
  /-- REPORT (R45). -/
  | report (p : Port)
  /-- READ_VERDICT (R41). -/
  | readVerdict (p : Port)
  /-- ACK (R88). -/
  | ack (p : Port)
  /-- SET_NOTICE (R90). -/
  | setNotice (p : Port)
  /-- READ_HISTORY (R94). -/
  | readHistory (p : Port)
  /-- SET_WINDOW (R75). -/
  | setWindow (p : Port)
  /-- JOIN_PAIR (R77). -/
  | joinPair (p : Port)
  /-- START_WINDOW (R79). -/
  | startWindow (p : Port)
  /-- STOP_WINDOW (R79). -/
  | stopWindow (p : Port)
  /-- PRESET_WINDOW (R80). -/
  | presetWindow (p : Port)
  /-- READ_WINDOW (R82). -/
  | readWindow (p : Port)
  /-- BIND_INPUT (R60). -/
  | bindInput (p : Port)
  /-- READ_INPUT (R62). -/
  | readInput (p : Port)
  /-- FREEZE (R98). -/
  | freeze (p : Port)
  /-- UNFREEZE (R109). -/
  | unfreeze (p : Port)
  /-- CONFIRM (R103). -/
  | confirm (p : Port)
  /-- WITHDRAW (R106). -/
  | withdraw (p : Port)
  /-- READ_PROPOSAL (R107). -/
  | readProposal (p : Port)
  /-- SAVE (R135). -/
  | save (p : Port)
  /-- SET_AUTOSAVE (R133). -/
  | setAutosave (p : Port)
  /-- READ_RETENTION (R137). -/
  | readRetention (p : Port)
  /-- AUDIT (R139). -/
  | audit (p : Port)
  /-- READ_AUDIT (R147). -/
  | readAudit (p : Port)
  /-- UNKNOWN_COMMAND (R160). -/
  | unknownCommand (p : Port)
  /-- COMMAND_FRAME (R149): the whole bytes after the kind byte C3h. -/
  | commandFrame (p : Port) (bytes : List Byte)
  /-- POLL (R153): the number of bytes clocked after the kind byte. -/
  | poll (p : Port) (clocked : Nat)
  /-- FETCH (R154): the number of bytes clocked after the kind byte. -/
  | fetch (p : Port) (clocked : Nat)
  /-- PORT_RESET (R156, R157): the whole bytes after the kind byte 99h, and whether its release falls inside the request of
  the port's own command, granted just before (R158). -/
  | portReset (p : Port) (frame : ResetFrame)
  /-- BAD_KIND_FRAME (R148): the kind byte, absent in a frame of no whole byte, and the number of bytes clocked after it. -/
  | badKindFrame (p : Port) (kind : Option Byte) (clocked : Nat)
  /-- RESET (R116). -/
  | reset (cause : ResetCause) (cut : CutPoint) (faults : List ArrayFault)
  /-- LOAD_END (R118). -/
  | loadEnd (upTo : LoadPoint)
  /-- PFW_N_ASSERTION (R131). -/
  | pfwAssertion
  /-- PFW_N_RELEASE (R132). -/
  | pfwRelease
  /-- TICK (R66). -/
  | tick
  /-- UPTIME_SECOND (R37). -/
  | uptimeSecond
  /-- PROPOSAL_EXPIRY (R102) of the proposal in slot `k`. -/
  | proposalExpiry (k : Fin 4)
  /-- INTERVAL_TIMER_EXPIRY (R134). -/
  | intervalTimerExpiry
  /-- EVENT_INPUT_EDGE (R53): a leading edge; `soon` when it comes less than 5 µs after the last acceptance. -/
  | eventInputEdge (i : Fin 4) (soon : Bool)
  /-- EVENT_INPUT_RETURN (R53). -/
  | eventInputReturn (i : Fin 4)
  /-- FILTER_WIDTH_ELAPSED (R53). -/
  | filterWidthElapsed (i : Fin 4)
  /-- PULSE_FOLD (R55). -/
  | pulseFold (i : Fin 4)
  /-- WINDOW_TICK_DECREMENT (R66). -/
  | windowTickDecrement (w : Fin 8)
  /-- WINDOW_EVENT_DECREMENT (R67, R68): a pulse of one input counted at one counter, an event of that counter's own. -/
  | windowEventDecrement (n : PulseCount)
  /-- WINDOW_CLOSE (R70). -/
  | windowClose (w : Fin 8)
  /-- EARLY_LOOK (R72). -/
  | earlyLook (w : Fin 8)
  /-- SAVE_END (R128): whether the read-back found every word as written. -/
  | saveEnd (readBackOk : Bool)
  /-- AUDIT_SEGMENT_END (R141): the words of the array found changed by faults. -/
  | auditSegmentEnd (faults : List ArrayFault)
  /-- LOSS_OF_POWER (R130). -/
  | lossOfPower (cut : CutPoint)
  /-- RST_N_RELEASE (R163): the ports whose select line is asserted at the release. -/
  | rstNRelease (selected : PortSet)
  /-- OPEN_MARKING_WRITTEN (R125). -/
  | openMarkingWritten
deriving DecidableEq, Repr

end Sys2Proof
end

