-- ==== Sys2Proof/WellFormed.lean ====
section
/-! DEFINITION. Which command terms stand for a step of the part. -/

namespace Sys2Proof

/-- The kind bytes the part knows (R148): COMMAND, POLL, FETCH, PORT RESET. -/
def knownKinds : List Byte := [0xC3, 0xA5, 0x5A, 0x99]

/-- A fault changes a word, so its sum moves, and it stands in the header or at one of 48 positions (R114). -/
def ArrayFault.wellFormed (f : ArrayFault) : Bool :=
  f.delta != 0 &&
  match f.place with
  | .header => true
  | .position p => decide (p < Config.entries)

/-- The checks on a command: a BAD_KIND frame has an unknown kind byte, or none and then no byte after it (R148); array
faults change a word. Every other operand is right by its type, and what a frame or a parameter block holds is judged by
the part itself. -/
def Instr.wellFormed : Instr → Bool
  | .badKindFrame _ (some kind) _ => !knownKinds.contains kind
  | .badKindFrame _ none clocked => clocked == 0
  | .reset _ _ faults => faults.all ArrayFault.wellFormed
  | .auditSegmentEnd faults => faults.all ArrayFault.wellFormed
  | .identify _ | .define _ | .retire _ | .tune _ | .clear _ | .readEntry _ | .list _ | .report _ | .readVerdict _
  | .ack _ | .setNotice _ | .readHistory _ | .setWindow _ | .joinPair _ | .startWindow _ | .stopWindow _
  | .presetWindow _ | .readWindow _ | .bindInput _ | .readInput _ | .freeze _ | .unfreeze _ | .confirm _
  | .withdraw _ | .readProposal _ | .save _ | .setAutosave _ | .readRetention _ | .audit _ | .readAudit _
  | .unknownCommand _ | .commandFrame _ _ | .poll _ _ | .fetch _ _ | .portReset _ _ | .loadEnd _ | .pfwAssertion
  | .pfwRelease | .tick | .uptimeSecond | .proposalExpiry _ | .intervalTimerExpiry | .eventInputEdge _ _
  | .eventInputReturn _ | .filterWidthElapsed _ | .pulseFold _ | .windowTickDecrement _ | .windowEventDecrement _
  | .windowClose _ | .earlyLook _ | .saveEnd _ | .lossOfPower _ | .rstNRelease _ | .openMarkingWritten => true

end Sys2Proof
end

