-- ==== Sys2Proof/Machine/State.lean ====
section
/-! DEFINITION. The state of the part, as plain data, and its value just after reset. -/

namespace Sys2Proof.Machine

/-! ## The condition table (chapter 1) -/

/-- The class of an entry (R1). -/
inductive Class where
  | service | urgent
deriving DecidableEq, Repr

/-- The kind of an entry with the fields of that kind alone (R1). Allowance is unsigned for RATE and two's complement for
LEVEL; an absent last sample or reading is `none`. -/
inductive KindPart where
  | count (total : Word32)
  | rate (allowance : Word16) (window : Fin 8) (settle : Nat) (total tally : Word32) (lastSample : Option Word32)
      (windowsSeen : Nat)
  | level (allowance : Word16) (reading : Option Word16)
deriving DecidableEq, Repr

/-- One entry of the condition table (1.1, R1). -/
structure Entry where
  id : Byte
  cls : Class
  reporters : PortSet
  trip : Nat
  step : Word16
  grade : Nat
  lowMark : Nat
  everTripped : Bool
  unsaved : Bool
  kind : KindPart
deriving DecidableEq, Repr

/-! ## The verdict, notices and history (chapters 2 and 5) -/

/-- The device-wide verdict (R34). -/
inductive Verdict where
  | nominal | service | urgent
deriving DecidableEq, Repr

/-- What made a verdict change: the cause kind with its identifier (R38, R92). -/
inductive Cause where
  | load
  | report (p : Port)
  | pulse (i : Fin 4)
  | close (w : Fin 8)
  | early (w : Fin 8)
  | define (id : Byte)
  | retire (id : Byte)
  | tune (id : Byte)
  | clear (id : Byte)
deriving DecidableEq, Repr

/-- One record of the history ring (5.6). -/
structure HistoryRecord where
  sequence : Word16
  old : Verdict
  new : Verdict
  cause : Cause
  uptime : Word32
deriving DecidableEq, Repr

/-- A port's notice mask (R84). -/
inductive NoticeMask where
  | none | worsen | any
deriving DecidableEq, Repr

/-- A port's notice state (R84). -/
inductive NoticeState where
  | clear | pending
deriving DecidableEq, Repr

/-- What the notice unit holds for one port (R84). -/
structure Notice where
  mask : NoticeMask
  state : NoticeState
deriving DecidableEq, Repr

/-! ## Event inputs (chapter 3) -/

/-- The filter of an event input (3.2). -/
inductive Filter where
  | off | us1 | us10 | us100
deriving DecidableEq, Repr

/-- The leading edge of an event input (3.2). -/
inductive Edge where
  | rise | fall
deriving DecidableEq, Repr

/-- A pulse being judged, with the filter and edge in force at its leading edge (R53, R60). -/
structure Judged where
  filter : Filter
  edge : Edge
deriving DecidableEq, Repr

/-- One event input: its pin, its settings, its two counters and what it has on its way to the other blocks. -/
structure EventInput where
  /-- The level of the pin: high or not. -/
  level : Bool
  filter : Filter
  edge : Edge
  binding : Option Byte
  accepted : Word32
  unbound : Word32
  judging : Option Judged
  /-- A pulse has been accepted since reset. -/
  acceptedOnce : Bool
  /-- Fold requests waiting for the table (R54); they are alike, so their number says all. -/
  folds : Nat
  /-- Window counts on their way to the window bank (R54), a number for each counter; those of one counter are alike. -/
  windowPulses : Vector Nat 8
deriving DecidableEq, Repr

/-! ## Window counters (chapter 4) -/

/-- The eight dividers of a TICK source (4.1). -/
inductive Divider where
  | ms1 | ms2 | ms5 | ms10 | ms50 | ms100 | ms500 | ms1000
deriving DecidableEq, Repr

/-- The source of a counter with its divider or input (R63). -/
inductive Source where
  | tick (d : Divider)
  | event (i : Fin 4)
deriving DecidableEq, Repr

/-- A request a counter has raised and the table has not yet taken (R69). -/
inductive WindowRequest where
  | close | early
deriving DecidableEq, Repr

/-- One window counter. For a joined pair the low counter holds the pair's count, phase, run state and requests (R65). -/
structure Counter where
  reload : Word16
  compare : Word16
  source : Source
  running : Bool
  count : Nat
  phase : Nat
  closes : Word32
  /-- Closes and early looks waiting for the table, oldest first. -/
  waiting : List WindowRequest
deriving DecidableEq, Repr

/-! ## Ports (chapter 9) -/

/-- The status of an answer (10.5). -/
inductive Status where
  | ok | proposed | notReady | unknownCommand | badParam | noEntry | idInUse | tableFull | badKind | badWindow
  | notPermitted | windowRunning | windowBound | frozen | notFrozen | stale | nothingPending | noProposal | tooLate
  | selfConfirm | proposalsFull | notProposer | busy | held | saveFailed | retentionFault | noImage | badState
deriving DecidableEq, Repr

/-- What a command is answered with: its status and result bytes (R160). -/
structure Answer where
  status : Status
  result : List Byte
deriving DecidableEq, Repr

/-- The state of a slot (9.2). -/
inductive SlotState where
  | empty | waiting | running | done
deriving DecidableEq, Repr

/-- A port's slot: its state, the command it holds and the response that waits in it (R150, R154). -/
structure Slot where
  state : SlotState
  tag : Byte
  code : Byte
  params : List Byte
  response : Option Answer
deriving DecidableEq, Repr

/-- A port's last frame result (R152). -/
inductive FrameResult where
  | none | accepted | slotBusy | badCheck | truncated | overlong | badKind | resetDone
deriving DecidableEq, Repr

/-- One port unit. -/
structure PortUnit where
  slot : Slot
  frameResult : FrameResult
  /-- The bytes returned on SDO_x during the last frame, the one returned during the kind byte first (R148). -/
  reply : List Byte
  /-- The frame now open was open at the release of RST_N or at power-on, and is to be ignored whole (R163). -/
  ignoreFrame : Bool
deriving DecidableEq, Repr

/-! ## Proposals (chapter 6) -/

/-- The twelve structural commands, which a proposal can hold (6.2). -/
inductive StructuralCode where
  | define | retire | tune | clear | setWindow | joinPair | startWindow | stopWindow | presetWindow | bindInput
  | setAutosave | unfreeze
deriving DecidableEq, Repr

/-- How a CLOSED proposal ended (R169). -/
inductive ProposalOutcome where
  | applied (result : Status)
  | withdrawn | expired | discarded
deriving DecidableEq, Repr

/-- A proposal slot in use (R99); it is OPEN while its outcome is absent. -/
structure Proposal where
  number : Word16
  proposer : Port
  code : StructuralCode
  params : List Byte
  remaining : Nat
  outcome : Option ProposalOutcome
deriving DecidableEq, Repr

/-! ## The retention array (7.1) -/

/-- A set of save causes (R114). -/
structure Causes where
  port : Bool
  worsen : Bool
  interval : Bool
  powerFail : Bool
  repair : Bool
deriving DecidableEq, Repr

/-- One entry record as the array holds it, with its check code; a fault can leave any field at any value. -/
structure EntryRecord where
  id : Byte
  kind : Byte
  cls : Byte
  reporters : Byte
  trip : Byte
  step : Word16
  allowance : Word16
  window : Byte
  settle : Byte
  total : Word32
  lastPresent : Byte
  lastSample : Word32
  windowsSeen : Byte
  readingPresent : Byte
  reading : Word16
  grade : Byte
  lowMark : Byte
  everTripped : Byte
  check : Word16
deriving DecidableEq, Repr

/-- A counter's settings as the array holds them. -/
structure CounterRecord where
  reload : Word16
  compare : Word16
  source : Byte
  selector : Byte
  running : Byte
deriving DecidableEq, Repr

/-- An input's settings as the array holds them. -/
structure InputRecord where
  binding : Byte
  filter : Byte
  edge : Byte
deriving DecidableEq, Repr

/-- The settings section of an image. -/
structure SettingsRecord where
  frozen : Byte
  lifetime : Word16
  onWorsen : Byte
  interval : Word16
  counters : Vector CounterRecord 8
  joined : Vector Byte 4
  inputs : Vector InputRecord 4
deriving DecidableEq, Repr

/-- A header that has been written. -/
structure HeaderRecord where
  marker : Word16
  generation : Word32
  count : Byte
  causes : Causes
  check : Word16
deriving DecidableEq, Repr

/-- What stands in an image's header (R115): only a header wholly erased is BLANK, only a written one can be VALID. -/
inductive Header where
  | erased
  /-- In part erased, in part written or disturbed by a fault. -/
  | inPart
  | openMarked
  | cancelled
  | written (h : HeaderRecord)
deriving DecidableEq, Repr

/-- One retention image. -/
structure Image where
  header : Header
  settings : SettingsRecord
  positions : List EntryRecord
deriving DecidableEq, Repr

/-- The state of an image (R115). -/
inductive ImageState where
  | blank | valid | invalid
deriving DecidableEq, Repr

/-- What the retention unit keeps of an image from the load on, as each save writes or cancels it (R115, R116). -/
structure ImageInfo where
  state : ImageState
  generation : Word32
  causes : Causes
  count : Nat
deriving DecidableEq, Repr

/-! ## The retention unit (chapters 7 and 8) -/

/-- How far a save in flight has come (R125). -/
inductive SaveStage where
  /-- The header, then the rest of the image, is being erased. -/
  | erasing
  /-- The open marking is written; the image is being written and verified. -/
  | marked
deriving DecidableEq, Repr

/-- The unsaved marks noted at the snapshot and not withdrawn since (R124). -/
structure SaveNote where
  ids : List Byte
  settings : Bool
deriving DecidableEq, Repr

/-- The save in flight (R124, R125). -/
structure Save where
  target : ImageId
  /-- The snapshot, in the form in which it is written. -/
  image : Image
  generation : Word32
  causes : Causes
  requesters : PortSet
  note : SaveNote
  stage : SaveStage
  /-- At the largest generation the older image's header is cancelled (R125). -/
  cancelsOlder : Bool
deriving DecidableEq, Repr

/-- The pending save (R122). -/
structure PendingSave where
  requesters : PortSet
  causes : Causes
deriving DecidableEq, Repr

/-- The retention state, with the save in flight and the pending save it has while SAVING (7.3, R122). The part is
STARTING exactly while the unit is LOADING (R116, R118). -/
inductive RetentionMode where
  | loading
  | idle
  | saving (save : Save) (waiting : Option PendingSave)
  | auditing
  | held
  | faulted
deriving DecidableEq, Repr

/-- The status of the audit sweep (R138). -/
inductive AuditStatus where
  | neverRun | running | allDone | abortedBySave | abortedByChange
deriving DecidableEq, Repr

/-- The audit sweep's own state (R138); `fresh` is the NEW count. -/
structure Audit where
  status : AuditStatus
  pointer : Nat
  matched : Nat
  differs : Nat
  missing : Nat
  damaged : Nat
  fresh : Nat
  lastKept : Byte
  kept : List Byte
deriving DecidableEq, Repr

/-! ## The whole state -/

/-- Everything the manual gives the part, and the queue of commands that wait. -/
structure State where
  /-- The commands that wait, first in first out. -/
  pending : List Instr
  powered : Bool
  rstAsserted : Bool
  pfwAsserted : Bool
  ports : PerPort PortUnit
  lastGranted : Option Port
  table : List Entry
  frozen : Bool
  lifetime : Word16
  autosaveOnWorsen : Bool
  autosaveInterval : Word16
  settingsUnsaved : Bool
  verdict : Verdict
  verdictSeq : Word16
  verdictSince : Word32
  uptime : Word32
  inputs : Vector EventInput 4
  windows : Vector Counter 8
  joined : Vector Bool 4
  notices : PerPort Notice
  history : List HistoryRecord
  proposals : Vector (Option Proposal) 4
  closingOrder : List (Fin 4)
  madeOrder : List (Fin 4)
  nextNumber : Word16
  array : PerImage Image
  imageInfo : PerImage ImageInfo
  activeImage : Option ImageId
  mode : RetentionMode
  failures : Nat
  droppedAtLoad : Nat
  sinceSave : Option Word32
  intervalTimer : Nat
  loadBuilt : Bool
  audit : Audit
deriving DecidableEq, Repr

/-- No command of this part stops it: every refusal the manual gives is an answer in a slot, and FAULTED is a state of the
retention unit. No meaning raises a fault (log entry 1). -/
inductive Fault where
deriving DecidableEq, Repr

/-- Why a command has no meaning. -/
inductive Refusal where
  /-- Raised by the dispatch alone, for a command that is not modelled yet; no arm raises it now. Safe. -/
  | notModelled (mnemonic : String)
deriving DecidableEq, Repr

/-- The outcome of one step. -/
abbrev Out := Host.Outcome State Fault Refusal

/-! ## Values at reset -/

/-- An empty slot with tag 0 (R151). -/
def Slot.reset : Slot := ⟨.empty, 0, 0, [], none⟩

/-- A port unit in its reset state (R151, R152, R163). -/
def PortUnit.reset : PortUnit := ⟨Slot.reset, .none, [], false⟩

/-- A port's notice at reset (R84). -/
def Notice.reset : Notice := ⟨.worsen, .clear⟩

/-- An event input with the no-image settings and both counters 0 (R61). The pin is low: DESIGN CHOICE (log entry 5). -/
def EventInput.reset : EventInput := ⟨false, .off, .rise, none, 0, 0, none, false, 0, Vector.replicate 8 0⟩

/-- A counter with the no-image values: 60 steps of 1000 ms, STOPPED (4.1). -/
def Counter.reset : Counter := ⟨60, 0, .tick .ms1000, false, 60, 0, 0, []⟩

/-- No cause. -/
def Causes.none : Causes := ⟨false, false, false, false, false⟩

/-- The settings words of an erased image: every bit set. They are not read, since its header is erased. -/
def SettingsRecord.erased : SettingsRecord :=
  ⟨0xFF, 0xFFFF, 0xFF, 0xFFFF, Vector.replicate 8 ⟨0xFFFF, 0xFFFF, 0xFF, 0xFF, 0xFF⟩, Vector.replicate 4 0xFF,
   Vector.replicate 4 ⟨0xFF, 0xFF, 0xFF⟩⟩

/-- An erased image (log entry 4). -/
def Image.erased : Image := ⟨.erased, SettingsRecord.erased, []⟩

/-- The retention unit's record of a BLANK image. -/
def ImageInfo.blank : ImageInfo := ⟨.blank, 0, Causes.none, 0⟩

/-- The audit sweep at reset (R138). -/
def Audit.reset : Audit := ⟨.neverRun, 0, 0, 0, 0, 0, 0, 0, []⟩

/-- The part just after power-on with a new array: STARTING, nothing loaded yet (R4, R40, R84, R97, R113, R116, R138,
R151, R159). The erased array and the pin levels are DESIGN CHOICE (log entries 4 and 5); settings stand at their no-image
values until the load ends (log entry 27). -/
def State.reset : State where
  pending := []
  powered := true
  rstAsserted := false
  pfwAsserted := false
  ports := ⟨PortUnit.reset, PortUnit.reset, PortUnit.reset⟩
  lastGranted := none
  table := []
  frozen := false
  lifetime := 5000
  autosaveOnWorsen := false
  autosaveInterval := 0
  settingsUnsaved := false
  verdict := .nominal
  verdictSeq := 0
  verdictSince := 0
  uptime := 0
  inputs := Vector.replicate 4 EventInput.reset
  windows := Vector.replicate 8 Counter.reset
  joined := Vector.replicate 4 false
  notices := ⟨Notice.reset, Notice.reset, Notice.reset⟩
  history := []
  proposals := Vector.replicate 4 none
  closingOrder := []
  madeOrder := []
  nextNumber := 1
  array := ⟨Image.erased, Image.erased⟩
  imageInfo := ⟨ImageInfo.blank, ImageInfo.blank⟩
  activeImage := none
  mode := .loading
  failures := 0
  droppedAtLoad := 0
  sinceSave := none
  intervalTimer := 0
  loadBuilt := false
  audit := Audit.reset

/-! ## The homes of the numbered and lettered stores -/

/-- Port `p`'s slot. -/
def State.slot (s : State) (p : Port) : Slot := (s.ports.get p).slot

/-- `s` with port unit `p` replaced. -/
def State.setPort (s : State) (p : Port) (u : PortUnit) : State := { s with ports := s.ports.set p u }

/-- `s` with port `p`'s slot replaced. -/
def State.setSlot (s : State) (p : Port) (x : Slot) : State := s.setPort p { s.ports.get p with slot := x }

/-- `s` with port `p`'s notice replaced. -/
def State.setNotice (s : State) (p : Port) (n : Notice) : State := { s with notices := s.notices.set p n }

/-- `s` with event input `i` replaced. -/
def State.setInput (s : State) (i : Fin 4) (e : EventInput) : State := { s with inputs := s.inputs.set i e }

/-- `s` with counter `w` replaced. -/
def State.setCounter (s : State) (w : Fin 8) (c : Counter) : State := { s with windows := s.windows.set w c }

/-- `s` with proposal slot `k` replaced. -/
def State.setProposal (s : State) (k : Fin 4) (x : Option Proposal) : State :=
  { s with proposals := s.proposals.set k x }

end Sys2Proof.Machine
end

