-- ==== Sys2Proof/Machine/Formats.lean ====
section
/-! DEFINITION. Byte layouts and codes (chapter 10). -/

namespace Sys2Proof.Machine

/-! ## Bytes and sums -/

/-- A number as one byte. -/
def byteOf (n : Nat) : Byte := BitVec.ofNat 8 n

/-- A 16-bit field, most significant byte first (chapter 10). -/
def be16 (x : Word16) : List Byte := [x.extractLsb' 8 8, x.extractLsb' 0 8]

/-- A 32-bit field, most significant byte first. -/
def be32 (x : Word32) : List Byte :=
  [x.extractLsb' 24 8, x.extractLsb' 16 8, x.extractLsb' 8 8, x.extractLsb' 0 8]

/-- The 16-bit field that two bytes carry, most significant byte first. -/
def word16 (hi lo : Byte) : Word16 := hi ++ lo

/-- The 8-bit wrapping sum of bytes (R166). -/
def sum8 : List Byte → Byte
  | [] => 0
  | x :: xs => x + sum8 xs

/-- The 16-bit wrapping sum of words of the array (R114). -/
def sum16 : List Word16 → Word16
  | [] => 0
  | x :: xs => x + sum16 xs

/-- The check byte that makes the sum of `bs` and itself 00h (R166). -/
def checkByte (bs : List Byte) : Byte := 0 - sum8 bs

/-- The check word that makes the sum of `ws` and itself FFFFh (R114). -/
def checkWord (ws : List Word16) : Word16 := 0xFFFF - sum16 ws

/-- A flag as 00h or 01h (10.3). -/
def flagByte (b : Bool) : Byte := if b then 1 else 0

/-! ## Vectors of fixed length through a function -/

/-- A vector of eight. -/
def vec8 {α : Type} (f : Fin 8 → α) : Vector α 8 := #v[f 0, f 1, f 2, f 3, f 4, f 5, f 6, f 7]

/-- A vector of four. -/
def vec4 {α : Type} (f : Fin 4 → α) : Vector α 4 := #v[f 0, f 1, f 2, f 3]

/-- The eight counters in order. -/
def allCounters : List (Fin 8) := [0, 1, 2, 3, 4, 5, 6, 7]

/-- The four slot positions, pairs or inputs in order. -/
def allFour : List (Fin 4) := [0, 1, 2, 3]

/-- The three ports in order. -/
def allPorts : List Port := [.a, .b, .c]

/-! ## Value codes (10.3) -/

/-- Port code. -/
def Port.toByte : Port → Byte
  | .a => 1
  | .b => 2
  | .c => 3

/-- Reporter set byte: A at bit 0, B at bit 1, C at bit 2 (R167). -/
def setByte (x : PortSet) : Byte := (if x.a then 1 else 0) + (if x.b then 2 else 0) + (if x.c then 4 else 0)

/-- The reporter set a byte carries (R167); its upper five bits are judged where it is read. -/
def setOfByte (x : Byte) : PortSet := ⟨x.getLsbD 0, x.getLsbD 1, x.getLsbD 2⟩

/-- Class code. -/
def Class.toByte : Class → Byte
  | .service => 1
  | .urgent => 2

/-- Kind code of a kind part. -/
def KindPart.toByte : KindPart → Byte
  | .count .. => 1
  | .rate .. => 2
  | .level .. => 3

/-- Verdict code. -/
def Verdict.toByte : Verdict → Byte
  | .nominal => 0
  | .service => 1
  | .urgent => 2

/-- Notice mask code. -/
def NoticeMask.toByte : NoticeMask → Byte
  | .none => 0
  | .worsen => 1
  | .any => 2

/-- Notice state code (10.1.1). -/
def NoticeState.toByte : NoticeState → Byte
  | .clear => 0
  | .pending => 1

/-- Filter code. -/
def Filter.toByte : Filter → Byte
  | .off => 0
  | .us1 => 1
  | .us10 => 2
  | .us100 => 3

/-- Edge code. -/
def Edge.toByte : Edge → Byte
  | .rise => 0
  | .fall => 1

/-- Divider code. -/
def Divider.toByte : Divider → Byte
  | .ms1 => 0
  | .ms2 => 1
  | .ms5 => 2
  | .ms10 => 3
  | .ms50 => 4
  | .ms100 => 5
  | .ms500 => 6
  | .ms1000 => 7

/-- A divider in ticks of 1 ms (4.1). -/
def Divider.ticks : Divider → Nat
  | .ms1 => 1
  | .ms2 => 2
  | .ms5 => 5
  | .ms10 => 10
  | .ms50 => 50
  | .ms100 => 100
  | .ms500 => 500
  | .ms1000 => 1000

/-- Source code. -/
def Source.toByte : Source → Byte
  | .tick _ => 0
  | .event _ => 1

/-- Selector byte of a source: divider code or input. -/
def Source.selector : Source → Byte
  | .tick d => d.toByte
  | .event i => byteOf i

/-- Image code; `none` is 00h. -/
def imageByte : Option ImageId → Byte
  | none => 0
  | some .a => 1
  | some .b => 2

/-- Image state code. -/
def ImageState.toByte : ImageState → Byte
  | .blank => 0
  | .valid => 1
  | .invalid => 2

/-- Retention state code. -/
def RetentionMode.toByte : RetentionMode → Byte
  | .loading => 0
  | .idle => 1
  | .saving _ _ => 2
  | .auditing => 3
  | .held => 4
  | .faulted => 5

/-- Audit status code. -/
def AuditStatus.toByte : AuditStatus → Byte
  | .neverRun => 0
  | .running => 1
  | .allDone => 2
  | .abortedBySave => 3
  | .abortedByChange => 4

/-- Save cause set: bit 0 PORT, bit 1 WORSEN, bit 2 INTERVAL, bit 3 POWER_FAIL, bit 4 REPAIR. -/
def Causes.toByte (x : Causes) : Byte :=
  (if x.port then 1 else 0) + (if x.worsen then 2 else 0) + (if x.interval then 4 else 0)
    + (if x.powerFail then 8 else 0) + (if x.repair then 16 else 0)

/-- Cause kind code. -/
def Cause.kindByte : Cause → Byte
  | .load => 0
  | .report _ => 1
  | .pulse _ => 2
  | .close _ => 3
  | .early _ => 4
  | .define _ => 5
  | .retire _ => 6
  | .tune _ => 7
  | .clear _ => 8

/-- Cause identifier (R92, 10.4.2). -/
def Cause.identifier : Cause → Byte
  | .load => 0
  | .report p => Port.toByte p
  | .pulse i => byteOf i
  | .close w => byteOf w
  | .early w => byteOf w
  | .define id => id
  | .retire id => id
  | .tune id => id
  | .clear id => id

/-- Slot state code (10.1.1). -/
def SlotState.toByte : SlotState → Byte
  | .empty => 0
  | .waiting => 1
  | .running => 2
  | .done => 3

/-- Status code (10.5). -/
def Status.toByte : Status → Byte
  | .ok => 0x00
  | .proposed => 0x01
  | .notReady => 0x02
  | .unknownCommand => 0x10
  | .badParam => 0x11
  | .noEntry => 0x12
  | .idInUse => 0x13
  | .tableFull => 0x14
  | .badKind => 0x15
  | .badWindow => 0x16
  | .notPermitted => 0x17
  | .windowRunning => 0x18
  | .windowBound => 0x19
  | .frozen => 0x1A
  | .notFrozen => 0x1B
  | .stale => 0x1C
  | .nothingPending => 0x1D
  | .noProposal => 0x1E
  | .tooLate => 0x1F
  | .selfConfirm => 0x20
  | .proposalsFull => 0x21
  | .notProposer => 0x22
  | .busy => 0x23
  | .held => 0x24
  | .saveFailed => 0x25
  | .retentionFault => 0x26
  | .noImage => 0x27
  | .badState => 0x28

/-- Proposal outcome code (10.5). -/
def ProposalOutcome.toByte : ProposalOutcome → Byte
  | .applied st => st.toByte
  | .withdrawn => 0x80
  | .expired => 0x81
  | .discarded => 0x82

/-- Frame result code (10.5). -/
def FrameResult.toByte : FrameResult → Byte
  | .none => 0
  | .accepted => 1
  | .slotBusy => 2
  | .badCheck => 3
  | .truncated => 4
  | .overlong => 5
  | .badKind => 6
  | .resetDone => 7

/-- Command code of a structural command (10.2). -/
def StructuralCode.toByte : StructuralCode → Byte
  | .define => 0x10
  | .retire => 0x11
  | .tune => 0x12
  | .clear => 0x13
  | .setWindow => 0x30
  | .joinPair => 0x31
  | .startWindow => 0x32
  | .stopWindow => 0x33
  | .presetWindow => 0x34
  | .bindInput => 0x40
  | .setAutosave => 0x61
  | .unfreeze => 0x51

/-- The command codes the part knows (10.2). -/
def knownCodes : List Byte :=
  [0x01, 0x10, 0x11, 0x12, 0x13, 0x14, 0x15, 0x16, 0x20, 0x21, 0x22, 0x23, 0x30, 0x31, 0x32, 0x33, 0x34, 0x35,
   0x40, 0x41, 0x50, 0x51, 0x52, 0x53, 0x54, 0x60, 0x61, 0x62, 0x63, 0x64]

/-! ## Responses -/

/-- The response to a command: status, tag, code, length, result, check byte (10.1.2). -/
def responseBytes (a : Answer) (tag code : Byte) : List Byte :=
  let body := [a.status.toByte, tag, code, byteOf a.result.length] ++ a.result
  body ++ [checkByte body]

/-- The bytes a controller gets in a POLL or FETCH frame of `n` bytes after the kind byte: 00h while the kind byte comes in
(DEDUCED, log entry 34), then the reply, then 00h (R148, R153, R154). -/
def clockOut (n : Nat) (bs : List Byte) : List Byte := 0 :: (bs.take n ++ List.replicate (n - bs.length) 0)

/-- A refusal: its status with the command's identifier field (R168). -/
def refuse (st : Status) (ident : List Byte) : Answer := ⟨st, ident⟩

end Sys2Proof.Machine
end

