-- ==== Sys2Proof/Machine/Flags.lean ====
section
/-! DEFINITION. Grades, low marks, trips and the verdict (chapter 2), and what each kind of observation does to an entry. -/

namespace Sys2Proof.Machine

/-! ## The grade (2.1 to 2.4) -/

/-- Addition that stays at the top of 32 bits (R47, R48). -/
def satAdd32 (x : Word32) (n : Nat) : Word32 := BitVec.ofNat 32 (min (x.toNat + n) 0xFFFFFFFF)

/-- COUNT: 200 less total over step, not below 1 (R24). -/
def countGrade (total : Word32) (step : Word16) : Nat := max 1 (200 - total.toNat / step.toNat)

/-- RATE: from a sample, or an early look's tally, against an unsigned allowance (R25). -/
def rateGrade (sample : Word32) (allowance step : Word16) : Nat :=
  if sample.toNat ≤ allowance.toNat then min 250 (200 + (allowance.toNat - sample.toNat))
  else max 1 (200 - (sample.toNat - allowance.toNat) / step.toNat)

/-- LEVEL: from a reading against an allowance, both signed (R28). -/
def levelGrade (reading allowance step : Word16) : Nat :=
  if reading.toInt ≤ allowance.toInt then 200
  else max 1 (200 - (reading.toInt - allowance.toInt).toNat / step.toNat)

/-- The fresh grade. -/
def freshGrade : Nat := 200

/-! ## Trips and marks (2.5, 2.6) -/

/-- Whether an entry with this trip level and grade is tripped (R31). -/
def trippedAt (trip grade : Nat) : Bool :=
  trip == 255 || (decide (1 ≤ trip) && decide (trip ≤ 250) && decide (grade ≤ trip))

/-- The tripped condition, derived each time (R2, R31). -/
def Entry.tripped (e : Entry) : Bool := trippedAt e.trip e.grade

/-- The ever-tripped mark is set when the entry is found tripped (R33). -/
def Entry.judge (e : Entry) : Entry := { e with everTripped := e.everTripped || e.tripped }

/-- A grade is written: the low mark takes it in and the ever-tripped mark is looked at (R30, R33). -/
def Entry.writeGrade (e : Entry) (g : Nat) : Entry :=
  Entry.judge { e with grade := g, lowMark := min e.lowMark g }

/-- Whether the entry is a RATE entry on counter `w` (R63). -/
def Entry.boundTo (e : Entry) (w : Fin 8) : Bool :=
  match e.kind with
  | .rate _ window _ _ _ _ _ => window == w
  | .count _ => false
  | .level _ _ => false

/-! ## Observations, closes and early looks on one entry -/

/-- One REPORT item of value `v` (R47 to R49). -/
def Entry.observe (v : Word16) (e : Entry) : Entry :=
  match e.kind with
  | .count total =>
    let total' := satAdd32 total v.toNat
    Entry.writeGrade { e with kind := .count total' } (countGrade total' e.step)
  | .rate a w n total tally last seen =>
    { e with kind := .rate a w n (satAdd32 total v.toNat) (satAdd32 tally v.toNat) last seen }
  | .level a _ => Entry.writeGrade { e with kind := .level a (some v) } (levelGrade v a e.step)

/-- The sample a close takes (R70, steps 1 to 6). A RATE entry that stays unsettled keeps the grade it has (R26). -/
def Entry.takeSample (e : Entry) : Entry :=
  match e.kind with
  | .rate a w n total tally _ seen =>
    let seen' := min 255 (seen + 1)
    let e' := { e with kind := .rate a w n total 0 (some tally) seen' }
    if n ≤ seen' then e'.writeGrade (rateGrade tally a e.step) else e'.judge
  | .count _ => e
  | .level _ _ => e

/-- What an early look does to a settled entry: a provisional grade below the one held lowers it (R27, R72), but a grade above
200 is not disturbed by one that is also above 200 (R27); `none` when the entry is left untouched. R72 does not name that
exception. That R27 rules there, as the rule for what an early look does to a grade, is DEDUCED (log entry 31). -/
def Entry.lookEarly (e : Entry) : Option Entry :=
  match e.kind with
  | .rate a _ n _ tally _ seen =>
    let g := rateGrade tally a e.step
    if n ≤ seen ∧ g < e.grade ∧ g ≤ freshGrade then some (e.writeGrade g) else none
  | .count _ => none
  | .level _ _ => none

/-- The tally zeroed without a sample (R77, R80). -/
def Entry.zeroTally (e : Entry) : Entry :=
  match e.kind with
  | .rate a w n total _ last seen => { e with kind := .rate a w n total 0 last seen }
  | .count _ => e
  | .level _ _ => e

/-- The kind part just after DEFINE: counting fields fresh, definition fields kept (1.1, R16). -/
def KindPart.fresh : KindPart → KindPart
  | .count _ => .count 0
  | .rate a w n _ _ _ _ => .rate a w n 0 0 none 0
  | .level a _ => .level a none

/-- Counting and standing fields as just after DEFINE, the trip looked at with grade 200 (R9, R16). -/
def Entry.refresh (e : Entry) : Entry :=
  Entry.judge { e with grade := freshGrade, lowMark := freshGrade, everTripped := false, kind := e.kind.fresh }

/-- The grade TUNE gives, from what the entry holds under its new definition fields (R14). -/
def Entry.tunedGrade (e : Entry) : Nat :=
  match e.kind with
  | .count total => countGrade total e.step
  | .rate a _ n _ _ (some last) seen => if n ≤ seen then rateGrade last a e.step else freshGrade
  | .rate _ _ _ _ _ none _ => freshGrade
  | .level a (some r) => levelGrade r a e.step
  | .level _ none => freshGrade

/-! ## The verdict (2.7) -/

/-- The verdict of a table (R34). -/
def deriveVerdict (t : List Entry) : Verdict :=
  if t.any (fun e => e.tripped && e.cls == .urgent) then .urgent
  else if t.any Entry.tripped then .service
  else .nominal

/-- The order NOMINAL, SERVICE, URGENT (R34). -/
def Verdict.rank : Verdict → Nat
  | .nominal => 0
  | .service => 1
  | .urgent => 2

/-- A change to a higher verdict (R34). -/
def worsens (old new : Verdict) : Bool := decide (old.rank < new.rank)

/-- Whether a port with this mask is marked by a change (R86). -/
def NoticeMask.takes (m : NoticeMask) (worsening : Bool) : Bool :=
  match m with
  | .none => false
  | .worsen => worsening
  | .any => true

/-! ## The table as a list (R3) -/

/-- The entry with this id. -/
def findEntry (id : Byte) (t : List Entry) : Option Entry := t.find? (fun e => e.id == id)

/-- `e` at the place its id takes in ascending order (R8). -/
def insertEntry (e : Entry) : List Entry → List Entry
  | [] => [e]
  | x :: xs => if e.id.toNat < x.id.toNat then e :: x :: xs else x :: insertEntry e xs

/-- The table without the entry of this id (R10). -/
def removeEntry (id : Byte) (t : List Entry) : List Entry := t.filter (fun e => e.id != id)

end Sys2Proof.Machine
end

