-- ==== Sys2Proof/Machine/Images.lean ====
section
/-! DEFINITION. The retention images as records: what a save writes, how an image and its positions are judged, and what
a load takes from them (7.1, 7.2, 8.4). -/

namespace Sys2Proof.Machine

/-! ## Words and check codes. The layout is DESIGN CHOICE (log entry 6): one word for each field of 16 bits or fewer. -/

/-- A byte as a word. -/
def wide (x : Byte) : Word16 := x.setWidth 16

/-- A 32-bit field as two words. -/
def halves (x : Word32) : List Word16 := [x.extractLsb' 16 16, x.extractLsb' 0 16]

/-- The words of an entry record, its check code apart (R114). -/
def EntryRecord.words (r : EntryRecord) : List Word16 :=
  [wide r.id, wide r.kind, wide r.cls, wide r.reporters, wide r.trip, r.step, r.allowance, wide r.window,
   wide r.settle] ++ halves r.total ++ [wide r.lastPresent] ++ halves r.lastSample ++
  [wide r.windowsSeen, wide r.readingPresent, r.reading, wide r.grade, wide r.lowMark, wide r.everTripped]

/-- Whether an entry check code sums to FFFFh (R115). -/
def EntryRecord.checkOk (r : EntryRecord) : Bool := sum16 (r.words ++ [r.check]) == 0xFFFF

/-- The words of a counter's settings. -/
def CounterRecord.words (c : CounterRecord) : List Word16 :=
  [c.reload, c.compare, wide c.source, wide c.selector, wide c.running]

/-- The words of an input's settings. -/
def InputRecord.words (i : InputRecord) : List Word16 := [wide i.binding, wide i.filter, wide i.edge]

/-- The words of the settings section. -/
def SettingsRecord.words (x : SettingsRecord) : List Word16 :=
  [wide x.frozen, x.lifetime, wide x.onWorsen, x.interval]
    ++ allCounters.flatMap (fun w => (x.counters[w]).words)
    ++ allFour.map (fun k => wide (x.joined[k]))
    ++ allFour.flatMap (fun i => (x.inputs[i]).words)

/-- The words of a header, its check word apart. -/
def HeaderRecord.words (h : HeaderRecord) : List Word16 :=
  [h.marker] ++ halves h.generation ++ [wide h.count, wide h.causes.toByte]

/-- Whether the header check word, over the header and the settings section, sums to FFFFh (R114, R115). -/
def headerCheckOk (h : HeaderRecord) (x : SettingsRecord) : Bool := sum16 (h.words ++ x.words ++ [h.check]) == 0xFFFF

/-! ## Writing an image from the table and settings (R114) -/

/-- The persisted fields of an entry; a field its kind lacks is zero. Its check code makes the sum FFFFh. -/
def recordOf (e : Entry) : EntryRecord :=
  let base : EntryRecord :=
    { id := e.id, kind := e.kind.toByte, cls := e.cls.toByte, reporters := setByte e.reporters, trip := byteOf e.trip,
      step := e.step, allowance := 0, window := 0, settle := 0, total := 0, lastPresent := 0, lastSample := 0,
      windowsSeen := 0, readingPresent := 0, reading := 0, grade := byteOf e.grade, lowMark := byteOf e.lowMark,
      everTripped := flagByte e.everTripped, check := 0 }
  let r : EntryRecord :=
    match e.kind with
    | .count total => { base with total := total }
    | .rate a w n total _ last seen =>
      { base with allowance := a, window := byteOf w, settle := byteOf n, total := total,
                  lastPresent := flagByte last.isSome, lastSample := last.getD 0, windowsSeen := byteOf seen }
    | .level a reading =>
      { base with allowance := a, readingPresent := flagByte reading.isSome, reading := reading.getD 0 }
  { r with check := checkWord r.words }

/-- A counter's settings; the high counter of a joined pair is held as STOPPED (7.1). -/
def counterRecordOf (c : Counter) (stopped : Bool) : CounterRecord :=
  ⟨c.reload, c.compare, c.source.toByte, c.source.selector, flagByte (c.running && !stopped)⟩

/-- Whether counter `w` is the high counter of a pair. -/
def isHigh (w : Fin 8) : Bool := w.val % 2 == 1

/-- The pair of counter `w` (00_scope 3). -/
def pairOf (w : Fin 8) : Fin 4 := ⟨w.val / 2, by omega⟩

/-- The low counter of pair `k`. -/
def lowOf (k : Fin 4) : Fin 8 := ⟨2 * k.val, by omega⟩

/-- The high counter of pair `k`. -/
def highOf (k : Fin 4) : Fin 8 := ⟨2 * k.val + 1, by omega⟩

/-- An input's settings. -/
def inputRecordOf (i : EventInput) : InputRecord := ⟨i.binding.getD 0, i.filter.toByte, i.edge.toByte⟩

/-- The settings section as the state holds it (7.1). -/
def settingsRecordOf (s : State) : SettingsRecord :=
  { frozen := flagByte s.frozen
    lifetime := s.lifetime
    onWorsen := flagByte s.autosaveOnWorsen
    interval := s.autosaveInterval
    counters := vec8 (fun w => counterRecordOf (s.windows[w]) (isHigh w && s.joined[pairOf w]))
    joined := vec4 (fun k => flagByte (s.joined[k]))
    inputs := vec4 (fun i => inputRecordOf (s.inputs[i])) }

/-- The image of the state's table and settings, with this generation and these causes (R114, R124). -/
def imageOf (s : State) (generation : Word32) (causes : Causes) : Image :=
  let x := settingsRecordOf s
  let h : HeaderRecord := ⟨Config.formatMarker, generation, byteOf s.table.length, causes, 0⟩
  { header := .written { h with check := checkWord (h.words ++ x.words) }
    settings := x
    positions := s.table.map recordOf }

/-! ## Judging an image (R115, R116) -/

/-- The state of an image (R115). -/
def Image.judge (i : Image) : ImageState :=
  match i.header with
  | .erased => .blank
  | .written h =>
    if h.marker == Config.formatMarker && decide (h.count.toNat ≤ Config.entries) && headerCheckOk h i.settings
    then .valid else .invalid
  | .inPart => .invalid
  | .openMarked => .invalid
  | .cancelled => .invalid

/-- What the retention unit keeps of an image at load. -/
def Image.info (i : Image) : ImageInfo :=
  match i.header with
  | .written h => ⟨i.judge, h.generation, h.causes, h.count.toNat⟩
  | .erased => ⟨i.judge, 0, Causes.none, 0⟩
  | .inPart => ⟨i.judge, 0, Causes.none, 0⟩
  | .openMarked => ⟨i.judge, 0, Causes.none, 0⟩
  | .cancelled => ⟨i.judge, 0, Causes.none, 0⟩

/-- Generation `x` is taken as larger than `y`, 1 being larger than the largest (R116). -/
def generationAbove (x y : Word32) : Bool :=
  if x == 1 && y == Config.lastGeneration then true
  else if x == Config.lastGeneration && y == 1 then false
  else decide (y.toNat < x.toNat)

/-- The active image of a load (R116). -/
def chooseActive (info : PerImage ImageInfo) : Option ImageId :=
  match info.a.state == .valid, info.b.state == .valid with
  | true, true => if generationAbove info.b.generation info.a.generation then some .b else some .a
  | true, false => some .a
  | false, true => some .b
  | false, false => none

/-! ## Judging and loading an entry position (R117, R142) -/

/-- Whether every field lies in its range for the record's kind; a field the kind lacks must be zero (log entry 16). -/
def EntryRecord.inRange (r : EntryRecord) : Bool :=
  (r.cls == 1 || r.cls == 2) && decide (r.reporters.toNat ≤ 7) && (decide (r.trip.toNat ≤ 250) || r.trip == 255)
  && r.step != 0 && decide (1 ≤ r.grade.toNat) && decide (r.grade.toNat ≤ 250)
  && decide (1 ≤ r.lowMark.toNat) && decide (r.everTripped.toNat ≤ 1)
  && (if r.kind == 1 then
        r.allowance == 0 && r.window == 0 && r.settle == 0 && r.lastPresent == 0 && r.lastSample == 0
        && r.windowsSeen == 0 && r.readingPresent == 0 && r.reading == 0
      else if r.kind == 2 then
        decide (r.window.toNat ≤ 7) && decide (r.settle.toNat ≤ 15) && decide (r.lastPresent.toNat ≤ 1)
        && r.readingPresent == 0 && r.reading == 0
      else if r.kind == 3 then
        r.window == 0 && r.settle == 0 && r.total == 0 && r.lastPresent == 0 && r.lastSample == 0
        && r.windowsSeen == 0 && decide (r.readingPresent.toNat ≤ 1)
      else false)

/-- The bounds of R26 and R30 on grade and low mark that the load checks (R117). -/
def EntryRecord.gradeOk (r : EntryRecord) : Bool :=
  decide (r.lowMark.toNat ≤ r.grade.toNat) && decide (r.lowMark.toNat ≤ 200)
  && (if r.kind == 2 then decide (r.settle.toNat ≤ r.windowsSeen.toNat) || r.grade == 200
      else decide (r.grade.toNat ≤ 200))

/-- Whether a position can stand after an entry of id `last`: its check passes, its id is 1 to 254 and above `last`, and
its fields are in range (R117). A position with no record has no good check (log entry 30). -/
def stands (last : Byte) (r : Option EntryRecord) : Bool :=
  match r with
  | none => false
  | some r =>
    r.checkOk && decide (1 ≤ r.id.toNat) && decide (r.id.toNat ≤ 254) && decide (last.toNat < r.id.toNat)
    && r.inRange && r.gradeOk

/-- The entry a record gives; tally 0 and the unsaved mark clear (R117). -/
def entryOf (r : EntryRecord) : Entry :=
  { id := r.id
    cls := if r.cls == 2 then .urgent else .service
    reporters := setOfByte r.reporters
    trip := r.trip.toNat
    step := r.step
    grade := r.grade.toNat
    lowMark := r.lowMark.toNat
    everTripped := r.everTripped == 1
    unsaved := false
    kind :=
      if r.kind == 1 then .count r.total
      else if r.kind == 2 then
        .rate r.allowance (Fin.ofNat 8 r.window.toNat) r.settle.toNat r.total 0
          (if r.lastPresent == 1 then some r.lastSample else none) r.windowsSeen.toNat
      else .level r.allowance (if r.readingPresent == 1 then some r.reading else none) }

/-- The record at a position below the entry count, if the image holds one. -/
def Image.position (i : Image) (p : Nat) : Option EntryRecord := i.positions[p]?

/-- The first `count` positions of an image, in image order. -/
def Image.used (i : Image) (count : Nat) : List (Option EntryRecord) := (List.range count).map i.position

/-- The entries a load keeps from these positions after an entry of id `last`, in order (R117). -/
def loadEntries (last : Byte) : List (Option EntryRecord) → List Entry
  | [] => []
  | r :: rs =>
    match r with
    | none => loadEntries last rs
    | some rec => if stands last (some rec) then entryOf rec :: loadEntries rec.id rs else loadEntries last rs

/-- How many of these positions a load drops (R117). -/
def droppedEntries (last : Byte) (rs : List (Option EntryRecord)) : Nat := rs.length - (loadEntries last rs).length

/-! ## Loading the settings (R118): a value outside its range takes its no-image value. -/

/-- The divider of a code. -/
def dividerOf (x : Byte) : Option Divider :=
  match x.toNat with
  | 0 => some .ms1
  | 1 => some .ms2
  | 2 => some .ms5
  | 3 => some .ms10
  | 4 => some .ms50
  | 5 => some .ms100
  | 6 => some .ms500
  | 7 => some .ms1000
  | _ => none

/-- An index below four. -/
def four? (n : Nat) : Option (Fin 4) := if h : n < 4 then some ⟨n, h⟩ else none

/-- An index below eight. -/
def eight? (n : Nat) : Option (Fin 8) := if h : n < 8 then some ⟨n, h⟩ else none

/-- The source that a source byte and a selector carry (10.3). -/
def sourceOf (source selector : Byte) : Option Source :=
  match source.toNat with
  | 0 => (dividerOf selector).map .tick
  | 1 => (four? selector.toNat).map .event
  | _ => none

/-- The filter of a code. -/
def filterOf (x : Byte) : Option Filter :=
  match x.toNat with
  | 0 => some .off
  | 1 => some .us1
  | 2 => some .us10
  | 3 => some .us100
  | _ => none

/-- The edge of a code. -/
def edgeOf (x : Byte) : Option Edge :=
  match x.toNat with
  | 0 => some .rise
  | 1 => some .fall
  | _ => none

/-- A counter as loaded, its count still to be preset; source and selector go together (R64, log entry 17). -/
def loadCounter (c : CounterRecord) : Counter :=
  let reload := if c.reload == 0 then 60 else c.reload
  { reload := reload
    compare := c.compare
    source := (sourceOf c.source c.selector).getD (.tick .ms1000)
    running := c.running == 1
    count := reload.toNat
    phase := 0
    closes := 0
    waiting := [] }

/-- The counters as loaded, given the joined flags that stand (R64, R83): a pair counts from its joined reload, and the
high counter of a pair that the image marks joined stands STOPPED. -/
def loadWindow (x : SettingsRecord) (joined : Fin 4 → Bool) (w : Fin 8) : Counter :=
  let k := pairOf w
  let c := loadCounter (x.counters[w])
  let c := if isHigh w && x.joined[k] == 1 then { c with running := false } else c
  if joined k && !isHigh w then
    { c with count := (loadCounter (x.counters[highOf k])).reload.toNat * 65536 + c.reload.toNat }
  else c

/-- Whether a joined pair of the image stays joined: no loaded RATE entry names its high counter (R118). -/
def loadJoined (x : SettingsRecord) (t : List Entry) (k : Fin 4) : Bool :=
  x.joined[k] == 1 && !t.any (fun e => e.boundTo (highOf k))

/-- A binding as loaded: none unless it names a COUNT or RATE entry of the loaded table (R61). -/
def loadBinding (x : InputRecord) (t : List Entry) : Option Byte :=
  match findEntry x.binding t with
  | none => none
  | some e =>
    match e.kind with
    | .level _ _ => none
    | .count _ => some x.binding
    | .rate _ _ _ _ _ _ _ => some x.binding

/-- An input as loaded, its pin left as it stands. -/
def loadInput (old : EventInput) (x : InputRecord) (t : List Entry) : EventInput :=
  { old with
    filter := (filterOf x.filter).getD .off
    edge := (edgeOf x.edge).getD .rise
    binding := loadBinding x t }

/-! ## Array faults (log entry 14) -/

/-- An image with one word changed: the sum its check covers moves. An erased header that loses a word is no longer
wholly erased (R115). -/
def Image.fail (i : Image) (place : FaultPlace) (delta : Word16) : Image :=
  if delta == 0 then i
  else
    match place with
    | .header =>
      match i.header with
      | .written h => { i with header := .written { h with check := h.check + delta } }
      | .erased => { i with header := .inPart }
      | .inPart => i
      | .openMarked => i
      | .cancelled => i
    | .position p =>
      { i with positions := i.positions.modify p (fun r => { r with check := r.check + delta }) }

/-- The array after these faults. -/
def failArray (x : PerImage Image) (faults : List ArrayFault) : PerImage Image :=
  faults.foldl (fun y f => y.set f.image ((y.get f.image).fail f.place f.delta)) x

end Sys2Proof.Machine
end

