-- ==== Sys2Proof/Machine/Operands.lean ====
section
/-! DEFINITION. The parameter blocks of the commands and their range checks (R6, R167): `none` is BAD_PARAM. -/

namespace Sys2Proof.Machine

/-! ## Fields -/

/-- An entry id of a command: 1 to 254. -/
def idOk (x : Byte) : Bool := decide (1 ≤ x.toNat) && decide (x.toNat ≤ 254)

/-- A reporter set byte names A, B and C alone (R167). -/
def setOk (x : Byte) : Bool := decide (x.toNat ≤ 7)

/-- A trip level is 0 to 250 or 255 (R31). -/
def tripOk (x : Byte) : Bool := decide (x.toNat ≤ 250) || x == 255

/-- The class of a code. -/
def classOf (x : Byte) : Option Class :=
  match x.toNat with
  | 1 => some .service
  | 2 => some .urgent
  | _ => none

/-- The notice mask of a code. -/
def maskOf (x : Byte) : Option NoticeMask :=
  match x.toNat with
  | 0 => some .none
  | 1 => some .worsen
  | 2 => some .any
  | _ => none

/-- A two-code field, 00h or 01h (10.3). -/
def flagOf (x : Byte) : Option Bool :=
  match x.toNat with
  | 0 => some false
  | 1 => some true
  | _ => none

/-- The byte of a block at a position; 0 when the block is too short (R168). -/
def byteAt (n : Nat) (ps : List Byte) : Byte := ps.getD n 0

/-- The identifier field at position `n` of a block, as carried (R168). -/
def identAt (n : Nat) (ps : List Byte) : List Byte := [byteAt n ps]

/-! ## Blocks with one field -/

/-- An entry id alone (RETIRE, CLEAR, READ_ENTRY). -/
def parseId : List Byte → Option Byte
  | [x] => if idOk x then some x else none
  | _ => none

/-- An after id, 0 to 254 (LIST, READ_VERDICT; R18, R41). -/
def parseAfter : List Byte → Option Byte
  | [x] => if x.toNat ≤ 254 then some x else none
  | _ => none

/-- A counter index (R79, R82). -/
def parseCounter : List Byte → Option (Fin 8)
  | [x] => eight? x.toNat
  | _ => none

/-- An input number (R62). -/
def parseInput : List Byte → Option (Fin 4)
  | [x] => four? x.toNat
  | _ => none

/-- Any byte (READ_HISTORY, R94). -/
def parseByte : List Byte → Option Byte
  | [x] => some x
  | _ => none

/-- Any two bytes: a verdict sequence or a proposal number (R88, R103, R106, R107). -/
def parseWord : List Byte → Option Word16
  | [hi, lo] => some (word16 hi lo)
  | _ => none

/-- No parameters (R109, R135, R137, R147, R164). -/
def parseNone : List Byte → Option Unit
  | [] => some ()
  | _ => none

/-- A notice mask (R90). -/
def parseMask : List Byte → Option NoticeMask
  | [x] => maskOf x
  | _ => none

/-- A proposal lifetime: 0, or 100 to 60000 ms (R98). -/
def parseLifetime : List Byte → Option Word16
  | [hi, lo] =>
    let x := word16 hi lo
    if x = 0 ∨ (100 ≤ x.toNat ∧ x.toNat ≤ 60000) then some x else none
  | _ => none

/-- The mode of an AUDIT: `false` START, `true` RESUME (R139). -/
def parseAuditMode : List Byte → Option Bool
  | [x] =>
    match x.toNat with
    | 1 => some false
    | 2 => some true
    | _ => none
  | _ => none

/-! ## Blocks with several fields -/

/-- What DEFINE carries; the kind part holds the definition fields of its kind, its counting fields fresh. -/
structure DefineParams where
  id : Byte
  cls : Class
  reporters : PortSet
  trip : Nat
  step : Word16
  kind : KindPart
deriving DecidableEq, Repr

/-- The kind part that DEFINE's kind, allowance, window and settle count give (R7). -/
def parseKind (kind : Byte) (allowance : Word16) (window settle : Byte) : Option KindPart :=
  match kind.toNat with
  | 1 => if allowance = 0 ∧ window = 0 ∧ settle = 0 then some (.count 0) else none
  | 2 =>
    match eight? window.toNat with
    | some w => if settle.toNat ≤ 15 then some (.rate allowance w settle.toNat 0 0 none 0) else none
    | none => none
  | 3 => if window = 0 ∧ settle = 0 then some (.level allowance none) else none
  | _ => none

/-- DEFINE's range check (R7). -/
def parseDefine : List Byte → Option DefineParams
  | [id, kind, cls, set, trip, s1, s0, a1, a0, window, settle] =>
    match classOf cls, parseKind kind (word16 a1 a0) window settle with
    | some c, some k =>
      if idOk id ∧ setOk set ∧ tripOk trip ∧ word16 s1 s0 ≠ 0 then
        some ⟨id, c, setOfByte set, trip.toNat, word16 s1 s0, k⟩
      else none
    | _, _ => none
  | _ => none

/-- What TUNE carries. -/
structure TuneParams where
  id : Byte
  cls : Class
  reporters : PortSet
  trip : Nat
  step : Word16
  allowance : Word16
  settle : Nat
deriving DecidableEq, Repr

/-- TUNE's range check, made without the entry's kind (R13). -/
def parseTune : List Byte → Option TuneParams
  | [id, cls, set, trip, s1, s0, a1, a0, settle] =>
    match classOf cls with
    | some c =>
      if idOk id ∧ setOk set ∧ tripOk trip ∧ word16 s1 s0 ≠ 0 ∧ settle.toNat ≤ 15 then
        some ⟨id, c, setOfByte set, trip.toNat, word16 s1 s0, word16 a1 a0, settle.toNat⟩
      else none
    | none => none
  | _ => none

/-- The items of a REPORT: entry id and value. -/
def parseItems : Nat → List Byte → Option (List (Byte × Word16))
  | 0, [] => some []
  | n + 1, id :: hi :: lo :: rest => (parseItems n rest).map (fun xs => (id, word16 hi lo) :: xs)
  | _, _ => none

/-- REPORT's range check, on its form alone (R44). -/
def parseReport : List Byte → Option (List (Byte × Word16))
  | n :: rest => if 1 ≤ n.toNat ∧ n.toNat ≤ 8 then parseItems n.toNat rest else none
  | [] => none

/-- What SET_WINDOW carries. -/
structure SetWindowParams where
  index : Fin 8
  source : Source
  reload : Word16
  compare : Word16
deriving DecidableEq, Repr

/-- SET_WINDOW's range check (R74). -/
def parseSetWindow : List Byte → Option SetWindowParams
  | [w, source, selector, r1, r0, c1, c0] =>
    match eight? w.toNat, sourceOf source selector with
    | some i, some src => if word16 r1 r0 ≠ 0 then some ⟨i, src, word16 r1 r0, word16 c1 c0⟩ else none
    | _, _ => none
  | _ => none

/-- JOIN_PAIR's range check: the pair, and whether it is to be joined (R76). -/
def parseJoinPair : List Byte → Option (Fin 4 × Bool)
  | [k, action] =>
    match four? k.toNat, flagOf action with
    | some i, some j => some (i, j)
    | _, _ => none
  | _ => none

/-- What BIND_INPUT carries; a binding of `none` is entry id 0. -/
structure BindParams where
  input : Fin 4
  binding : Option Byte
  filter : Filter
  edge : Edge
deriving DecidableEq, Repr

/-- BIND_INPUT's range check (R59). -/
def parseBind : List Byte → Option BindParams
  | [input, id, filter, edge] =>
    match four? input.toNat, filterOf filter, edgeOf edge with
    | some i, some f, some e =>
      if id.toNat ≤ 254 then some ⟨i, if id = 0 then none else some id, f, e⟩ else none
    | _, _, _ => none
  | _ => none

/-- SET_AUTOSAVE's range check: on worsening, interval in minutes (R133). -/
def parseAutosave : List Byte → Option (Bool × Word16)
  | [onWorsen, i1, i0] =>
    match flagOf onWorsen with
    | some b => if (word16 i1 i0).toNat ≤ 1440 then some (b, word16 i1 i0) else none
    | none => none
  | _ => none

end Sys2Proof.Machine
end

