-- ==== Sys2Proof/Machine/Ops.lean ====
section
/-! DEFINITION. The operations the meanings share: marks, slots and answers, save requests, verdict changes, proposals,
counters and pulses. -/

namespace Sys2Proof.Machine

/-! ## When the part works -/

/-- The part has power and RST_N is released. -/
def State.live (s : State) : Bool := s.powered && !s.rstAsserted

/-- The part is READY: its load has ended (R4, R118). -/
def State.ready (s : State) : Bool := s.live && s.mode != .loading

/-- Part state byte of the POLL summary: 00h STARTING, 01h READY (10.1.1). -/
def State.partByte (s : State) : Byte := flagByte (s.mode != .loading)

/-- ALERT_x_N is driven low exactly while the port's notice is PENDING (R87). -/
def State.alertLow (s : State) (p : Port) : Bool := (s.notices.get p).state == .pending

/-! ## Unsaved marks and the note of a save in flight (1.8, R124) -/

/-- The note of the save in flight with these ids withdrawn. -/
def RetentionMode.withdrawIds (m : RetentionMode) (gone : Byte → Bool) : RetentionMode :=
  match m with
  | .saving sv w => .saving { sv with note := { sv.note with ids := sv.note.ids.filter (fun id => !gone id) } } w
  | .loading => .loading
  | .idle => .idle
  | .auditing => .auditing
  | .held => .held
  | .faulted => .faulted

/-- The note of the save in flight with the settings-unsaved mark withdrawn. -/
def RetentionMode.withdrawSettings (m : RetentionMode) : RetentionMode :=
  match m with
  | .saving sv w => .saving { sv with note := { sv.note with settings := false } } w
  | .loading => .loading
  | .idle => .idle
  | .auditing => .auditing
  | .held => .held
  | .faulted => .faulted

/-- The settings-unsaved mark is set, and withdrawn from the note (R20, R124). -/
def State.markSettings (s : State) : State :=
  { s with settingsUnsaved := true, mode := s.mode.withdrawSettings }

/-- An entry through `f`, its unsaved mark set if `f` gives one (R19). -/
def markedBy (f : Entry → Option Entry) (e : Entry) : Entry :=
  match f e with
  | some e' => { e' with unsaved := true }
  | none => e

/-- The entries that `f` writes are written and marked unsaved, in ascending id order; the others stay (R19, R124). -/
def State.writeEntries (s : State) (f : Entry → Option Entry) : State :=
  { s with
    table := s.table.map (markedBy f)
    mode := s.mode.withdrawIds (fun id => s.table.any (fun e => e.id == id && (f e).isSome)) }

/-- The entry of this id is written through `f` and marked unsaved. -/
def State.writeEntry (s : State) (id : Byte) (f : Entry → Entry) : State :=
  s.writeEntries (fun e => if e.id = id then some (f e) else none)

/-- Tallies of the entries bound to counter `w` become 0; no mark is set (R19, R77, R80). -/
def State.zeroTallies (s : State) (w : Fin 8) : State :=
  { s with table := s.table.map (fun e => if e.boundTo w then e.zeroTally else e) }

/-! ## Slots and answers (9.2, R160) -/

/-- The answer of a request is placed in a slot that is RUNNING; a slot a PORT RESET has emptied gets none (R151, R158). -/
def State.placeAnswer (s : State) (p : Port) (a : Answer) : State :=
  if (s.slot p).state = .running then s.setSlot p { s.slot p with state := .done, response := some a } else s

/-- The answer placed for each port of a set. -/
def State.placeAnswers (s : State) (who : PortSet) (a : Answer) : State :=
  allPorts.foldl (fun t p => if who.get p then t.placeAnswer p a else t) s

/-- The ports in the order the arbiter searches them (R159). -/
def searchOrder : Option Port → List Port
  | none => [.a, .b, .c]
  | some .a => [.b, .c, .a]
  | some .b => [.c, .a, .b]
  | some .c => [.a, .b, .c]

/-- The port the arbiter grants next: the first WAITING one in its search order (R159). -/
def State.nextGrant (s : State) : Option Port :=
  (searchOrder s.lastGranted).find? (fun p => (s.slot p).state == .waiting)

/-- The grant: the slot becomes RUNNING and the arbiter remembers the port (R159, R160). -/
def State.grant (s : State) (p : Port) : State :=
  { s.setSlot p { s.slot p with state := .running } with lastGranted := some p }

/-- Whether a command of port `p` whose code passes `code` can be granted now: the part is READY, the arbiter's search
gives this port, and its slot holds such a command (R159, R160). -/
def State.canTake (s : State) (p : Port) (code : Byte → Bool) : Bool :=
  s.ready && s.nextGrant == some p && code (s.slot p).code

/-- A granted command is taken as one request and its answer placed in the slot (R5, R160). A command that cannot be
granted now is not taken (log entry 1). A PORT RESET that falls inside the request is the row PORT_RESET with its
operand (R158, log entry 3). -/
def State.takeCommand (s : State) (p : Port) (code : Byte → Bool)
    (request : List Byte → State → State × Answer) : State :=
  if s.canTake p code then
    let r := request (s.slot p).params (s.grant p)
    r.1.placeAnswer p r.2
  else s

/-! ## Saves (chapter 7) -/

/-- The union of two sets of causes. -/
def Causes.union (x y : Causes) : Causes :=
  ⟨x.port || y.port, x.worsen || y.worsen, x.interval || y.interval, x.powerFail || y.powerFail, x.repair || y.repair⟩

/-- The cause PORT. -/
def Causes.ofPort : Causes := { Causes.none with port := true }

/-- The cause WORSEN. -/
def Causes.ofWorsen : Causes := { Causes.none with worsen := true }

/-- The cause INTERVAL. -/
def Causes.ofInterval : Causes := { Causes.none with interval := true }

/-- The cause POWER_FAIL. -/
def Causes.ofPowerFail : Causes := { Causes.none with powerFail := true }

/-- The cause REPAIR. -/
def Causes.ofRepair : Causes := { Causes.none with repair := true }

/-- Whether an internal cause is present (R123). -/
def Causes.internal (x : Causes) : Bool := x.worsen || x.interval || x.powerFail || x.repair

/-- The union of two sets of ports. -/
def unionPorts (x y : PortSet) : PortSet := ⟨x.a || y.a, x.b || y.b, x.c || y.c⟩

/-- The image a save writes: the inactive one, A when there is no active image (R125). -/
def State.saveTarget (s : State) : ImageId :=
  match s.activeImage with
  | some i => i.other
  | none => .a

/-- The generation a save writes: the active one plus 1, and 1 after the largest or when there is none (R125). -/
def State.saveGeneration (s : State) : Word32 :=
  match s.activeImage with
  | some i =>
    let g := (s.imageInfo.get i).generation
    if g = Config.lastGeneration then 1 else g + 1
  | none => 1

/-- Whether the save must cancel the older image: the active generation is the largest (R125). -/
def State.saveCancels (s : State) : Bool :=
  match s.activeImage with
  | some i => (s.imageInfo.get i).generation == Config.lastGeneration
  | none => false

/-- The marks noted at the snapshot (R124). -/
def State.noteMarks (s : State) : SaveNote :=
  ⟨(s.table.filter (fun e => e.unsaved)).map (fun e => e.id), s.settingsUnsaved⟩

/-- A save starts: its snapshot is taken, its note made, and the erase of the written image begins, which is reported
BLANK (R124, R125). -/
def State.startSave (s : State) (requesters : PortSet) (causes : Causes) : State :=
  let g := s.saveGeneration
  { s with
    mode := .saving
      { target := s.saveTarget
        image := imageOf s g causes
        generation := g
        causes := causes
        requesters := requesters
        note := s.noteMarks
        stage := .erasing
        cancelsOlder := s.saveCancels } none
    imageInfo := s.imageInfo.set s.saveTarget { s.imageInfo.get s.saveTarget with state := .blank } }

/-- A running sweep is aborted by a save that starts (R145). -/
def State.abortAudit (s : State) (status : AuditStatus) : State :=
  { s with mode := .idle, audit := { s.audit with status := status } }

/-- A request merged into the pending save, which the first such request creates (R122). -/
def joinPending (w : Option PendingSave) (requesters : PortSet) (causes : Causes) : PendingSave :=
  match w with
  | some x => ⟨unionPorts x.requesters requesters, x.causes.union causes⟩
  | none => ⟨requesters, causes⟩

/-- A save request that names no port, by the state it finds (R120, R121, R129). POWER_FAIL is not among them. -/
def State.requestSave (s : State) (causes : Causes) : State :=
  if s.pfwAsserted then s
  else
    match s.mode with
    | .idle => s.startSave .none causes
    | .auditing => (s.abortAudit .abortedBySave).startSave .none causes
    | .saving sv w => { s with mode := .saving sv (some (joinPending w .none causes)) }
    | .held => s
    | .faulted => s
    | .loading => s

/-- A port's save request: answered at once, or the port is a requester of a save (R120, R121, R161). -/
def State.requestPortSave (s : State) (p : Port) : State :=
  match s.mode with
  | .faulted => s.placeAnswer p ⟨.retentionFault, []⟩
  | .idle =>
    if s.pfwAsserted then s.placeAnswer p ⟨.held, []⟩ else s.startSave (PortSet.only p) .ofPort
  | .auditing =>
    if s.pfwAsserted then s.placeAnswer p ⟨.held, []⟩
    else (s.abortAudit .abortedBySave).startSave (PortSet.only p) .ofPort
  | .saving sv w =>
    if s.pfwAsserted then s.placeAnswer p ⟨.held, []⟩
    else { s with mode := .saving sv (some (joinPending w (PortSet.only p) .ofPort)) }
  | .held => s.placeAnswer p ⟨.held, []⟩
  | .loading => s.placeAnswer p ⟨.held, []⟩

/-- A definition change aborts a running sweep (R146). -/
def State.definitionChange (s : State) : State :=
  match s.mode with
  | .auditing => s.abortAudit .abortedByChange
  | .loading => s
  | .idle => s
  | .saving _ _ => s
  | .held => s
  | .faulted => s

/-! ## The verdict (R35 to R39) and its notices (R86, R93) -/

/-- A notice after a verdict change (R86). -/
def Notice.mark (n : Notice) (worsening : Bool) : Notice :=
  if n.mask.takes worsening then { n with state := .pending } else n

/-- The notice unit takes a verdict change record: ports are marked and the record enters the ring (R86, R93). -/
def State.takeRecord (s : State) (r : HistoryRecord) : State :=
  { s with
    notices := s.notices.map (fun n => n.mark (worsens r.old r.new))
    history := (r :: s.history).take Config.historyRecords }

/-- The verdict is written, the sequence advances, verdict since takes the uptime, and the record is handed to the notice
unit (R37, R38). -/
def State.changeVerdict (s : State) (new : Verdict) (cause : Cause) : State :=
  State.takeRecord
    { s with verdict := new, verdictSeq := s.verdictSeq + 1, verdictSince := s.uptime }
    { sequence := s.verdictSeq + 1, old := s.verdict, new := new, cause := cause, uptime := s.uptime }

/-- The one recomputation at the end of a request, with the WORSEN save request of a worsening while autosave on
worsening is set (R35, R36, R39). -/
def State.recompute (s : State) (cause : Cause) : State :=
  let v := deriveVerdict s.table
  if v = s.verdict then s
  else
    let t := s.changeVerdict v cause
    if worsens s.verdict v && s.autosaveOnWorsen then t.requestSave .ofWorsen else t

/-! ## Proposals (chapter 6) -/

/-- Whether a slot in use holds this number. -/
def State.numberInUse (s : State) (n : Word16) : Bool :=
  allFour.any (fun k =>
    match s.proposals[k] with
    | some q => q.number == n
    | none => false)

/-- The slot in use that holds this number (R103). -/
def State.findProposal (s : State) (n : Word16) : Option (Fin 4) :=
  allFour.find? (fun k =>
    match s.proposals[k] with
    | some q => q.number == n
    | none => false)

/-- The number after `n`: 65535 is followed by 1 (R101). -/
def succNumber (n : Word16) : Word16 := if n = 0xFFFF then 1 else n + 1

/-- The first number from `n` on that no slot in use holds; four slots hold at most four (R101). A held number is passed
over when a proposal is made, not when the counter comes to it after the one before: DESIGN CHOICE (log entry 32). -/
def State.pickNumber (s : State) : Nat → Word16 → Word16
  | 0, n => n
  | fuel + 1, n => if s.numberInUse n then s.pickNumber fuel (succNumber n) else n

/-- The slot for a new proposal: the lowest FREE one, else the one that closed earliest (R100). -/
def State.findSlot (s : State) : Option (Fin 4) :=
  match allFour.find? (fun k => (s.proposals[k]).isNone) with
  | some k => some k
  | none => s.closingOrder.head?

/-- A slot becomes FREE and leaves both orders (R107, R112). -/
def State.freeProposal (s : State) (k : Fin 4) : State :=
  { s.setProposal k none with
    closingOrder := s.closingOrder.filter (fun j => j != k)
    madeOrder := s.madeOrder.filter (fun j => j != k) }

/-- An OPEN proposal closes with this outcome, remaining lifetime 0, as the latest in the closing order (R100, R102). -/
def State.closeProposal (s : State) (k : Fin 4) (outcome : ProposalOutcome) : State :=
  match s.proposals[k] with
  | some q =>
    { s.setProposal k (some { q with outcome := some outcome, remaining := 0 }) with
      closingOrder := s.closingOrder.filter (fun j => j != k) ++ [k] }
  | none => s

/-- A structural command that passed its range check on a frozen table becomes a proposal, or is answered PROPOSALS_FULL
(R99 to R101). -/
def State.makeProposal (s : State) (p : Port) (code : StructuralCode) (params : List Byte) : State × Answer :=
  match s.findSlot with
  | none => (s, ⟨.proposalsFull, []⟩)
  | some k =>
    let t := s.freeProposal k
    let n := t.pickNumber 5 t.nextNumber
    let q : Proposal :=
      { number := n, proposer := p, code := code, params := params, remaining := t.lifetime.toNat, outcome := none }
    ({ t.setProposal k (some q) with madeOrder := t.madeOrder ++ [k], nextNumber := succNumber n },
     ⟨.proposed, be16 n ++ be16 t.lifetime⟩)

/-- A structural command: range check, then a proposal on a frozen table and its own state check and effect on an unfrozen
one (R6, R99). -/
def State.structural {α : Type} (s : State) (p : Port) (code : StructuralCode) (ident : List Byte → List Byte)
    (parse : List Byte → Option α) (apply : α → State → State × Answer) (params : List Byte) : State × Answer :=
  match parse params with
  | none => (s, refuse .badParam (ident params))
  | some x => if s.frozen then s.makeProposal p code params else apply x s

/-- A command that reads or acts at its grant on a frozen and an unfrozen table alike, after its range check. -/
def State.direct {α : Type} (s : State) (ident : List Byte → List Byte) (parse : List Byte → Option α)
    (apply : α → State → State × Answer) (params : List Byte) : State × Answer :=
  match parse params with
  | none => (s, refuse .badParam (ident params))
  | some x => apply x s

/-- No identifier field (R168). -/
def noIdent (_ : List Byte) : List Byte := []

/-! ## Counters (chapter 4) -/

/-- Whether the pair of counter `w` is joined. -/
def State.pairJoined (s : State) (w : Fin 8) : Bool := s.joined[pairOf w]

/-- The counter that holds the count of counter `w`: the low one of a joined pair (R65). -/
def State.baseCounter (s : State) (w : Fin 8) : Fin 8 := if s.pairJoined w then lowOf (pairOf w) else w

/-- Whether counter `w` counts: every one but the high counter of a joined pair (R65). -/
def State.counts (s : State) (w : Fin 8) : Bool := !(s.pairJoined w && isHigh w)

/-- The joined value of two halves (R65). -/
def joinedValue (high low : Word16) : Nat := high.toNat * 65536 + low.toNat

/-- The effective reload: the joined one when the pair is joined (R65, R82). -/
def State.effectiveReload (s : State) (w : Fin 8) : Nat :=
  let k := pairOf w
  if s.joined[k] then joinedValue (s.windows[highOf k]).reload (s.windows[lowOf k]).reload
  else (s.windows[w]).reload.toNat

/-- The effective compare. -/
def State.effectiveCompare (s : State) (w : Fin 8) : Nat :=
  let k := pairOf w
  if s.joined[k] then joinedValue (s.windows[highOf k]).compare (s.windows[lowOf k]).compare
  else (s.windows[w]).compare.toNat

/-- One decrement of a counter: it falls by 1 and may raise an early look, or it closes and returns to the reload
(R68). -/
def Counter.decrement (c : Counter) (reload compare : Nat) : Counter :=
  if 2 ≤ c.count then
    { c with
      count := c.count - 1
      waiting := if c.count - 1 = compare then c.waiting ++ [.early] else c.waiting }
  else { c with count := reload, waiting := c.waiting ++ [.close] }

/-- The decrement of counter `w` by its effective values (R65, R68). -/
def State.decrement (s : State) (w : Fin 8) : State :=
  s.setCounter w ((s.windows[w]).decrement (s.effectiveReload w) (s.effectiveCompare w))

/-- Count at its effective reload, phase 0, waiting closes and early looks withdrawn (R69). -/
def State.presetCounter (s : State) (w : Fin 8) : State :=
  s.setCounter w { s.windows[w] with count := s.effectiveReload w, phase := 0, waiting := [] }

/-! ## Pulses (R54) -/

/-- Whether counter `w` takes a pulse of input `i` now: it counts, is RUNNING and takes its source from the input (R54,
R67). -/
def State.takesPulse (s : State) (i : Fin 4) (w : Fin 8) : Bool :=
  s.counts w && (s.windows[w]).running && (s.windows[w]).source == .event i

/-- A pulse is accepted: the count rises, one fold request waits for the table, and one count for each counter that takes
it waits for the window bank (R54, log entry 19). -/
def State.acceptPulse (s : State) (i : Fin 4) : State :=
  let e := s.inputs[i]
  s.setInput i
    { e with
      accepted := e.accepted + 1
      judging := none
      acceptedOnce := true
      folds := e.folds + 1
      windowPulses := vec8 (fun w => e.windowPulses[w] + if s.takesPulse i w then 1 else 0) }

/-! ## Frames (9.1) -/

/-- The port units with the ports of `selected` marked: a frame open there is to be ignored (R163). -/
def markOpenFrames (selected : PortSet) (units : PerPort PortUnit) : PerPort PortUnit :=
  ⟨{ units.a with ignoreFrame := selected.a }, { units.b with ignoreFrame := selected.b },
   { units.c with ignoreFrame := selected.c }⟩

/-- A frame of port `p` is taken: never without power or while RST_N is asserted, and a frame open at power-on or across
the release of RST_N is ignored whole, its own release ending that (R163). What SDO_x shows in an ignored frame the manual
leaves open: no bytes are recorded for it and `reply` stays, DESIGN CHOICE (log entry 15). -/
def State.takeFrame (s : State) (p : Port) (k : PortUnit → State) : State :=
  let u := s.ports.get p
  if s.live then
    if u.ignoreFrame then s.setPort p { u with ignoreFrame := false } else k u
  else s

end Sys2Proof.Machine
end

