-- ==== Sys2Proof/Machine/AuditSweep.lean ====
section
/-! DEFINITION. AUDIT, READ_AUDIT and the end of a segment (chapter 8). -/

namespace Sys2Proof.Machine

/-! ## AUDIT and READ_AUDIT -/

/-- What a refused AUDIT carries: status and pointer (R168). -/
def State.auditIdent (s : State) : List Byte := [s.audit.status.toByte, byteOf s.audit.pointer]

/-- Whether a RESUME finds an aborted sweep (R139). -/
def AuditStatus.resumable : AuditStatus → Bool
  | .abortedBySave => true
  | .abortedByChange => true
  | .neverRun => false
  | .running => false
  | .allDone => false

/-- The sweep as an accepted AUDIT leaves it (R140): `resume` keeps pointer, counts and kept ids. -/
def Audit.accept (a : Audit) (resume : Bool) : Audit :=
  if resume then { a with status := .running } else { Audit.reset with status := .running }

/-- AUDIT judged by the retention unit, in its order (R139, R140). -/
def applyAudit (resume : Bool) (s : State) : State × Answer :=
  match s.mode with
  | .faulted => (s, refuse .retentionFault s.auditIdent)
  | .held => (s, refuse .held s.auditIdent)
  | .saving _ _ => (s, refuse .busy s.auditIdent)
  | .auditing => (s, refuse .busy s.auditIdent)
  | .loading => (s, refuse .busy s.auditIdent)
  | .idle =>
    if s.activeImage.isNone then (s, refuse .noImage s.auditIdent)
    else if resume && !s.audit.status.resumable then (s, refuse .badState s.auditIdent)
    else
      let a := s.audit.accept resume
      ({ s with mode := .auditing, audit := a }, ⟨.ok, [if resume then 2 else 1, byteOf a.pointer]⟩)

/-- AUDIT's request at the table. -/
def requestAudit (_p : Port) (ps : List Byte) (t : State) : State × Answer :=
  t.direct (fun _ => t.auditIdent) parseAuditMode applyAudit ps

/-- AUDIT (R139, R140). -/
def execAudit (p : Port) (s : State) : Out := .next (s.takeCommand p (· == 0x63) (requestAudit p))

/-- What READ_AUDIT answers (R147). -/
def readAuditAnswer (s : State) : Answer :=
  let a := s.audit
  ⟨.ok, [a.status.toByte, byteOf a.pointer, byteOf a.matched, byteOf a.differs, byteOf a.missing, byteOf a.damaged,
         byteOf a.fresh]⟩

/-- READ_AUDIT (R147). -/
def execReadAudit (p : Port) (s : State) : Out :=
  .next (s.takeCommand p (· == 0x64)
    (fun ps t => t.direct noIdent parseNone (fun _ u => (u, readAuditAnswer u)) ps))

/-! ## A segment -/

/-- Whether a working entry agrees with a record in every definition field, a field its kind lacks compared as zero
(R142). -/
def sameDefinition (r : EntryRecord) (e : Entry) : Bool :=
  let x := recordOf e
  r.kind == x.kind && r.cls == x.cls && r.reporters == x.reporters && r.trip == x.trip && r.step == x.step
  && r.allowance == x.allowance && r.window == x.window && r.settle == x.settle

/-- One position judged, its outcome added (R142). -/
def Audit.judgePosition (t : List Entry) (a : Audit) (r : Option EntryRecord) : Audit :=
  match r with
  | none => { a with damaged := a.damaged + 1 }
  | some rec =>
    if stands a.lastKept (some rec) then
      let kept := { a with lastKept := rec.id, kept := a.kept ++ [rec.id] }
      match findEntry rec.id t with
      | none => { kept with missing := a.missing + 1 }
      | some e =>
        if sameDefinition rec e then { kept with matched := a.matched + 1 } else { kept with differs := a.differs + 1 }
    else { a with damaged := a.damaged + 1 }

/-- The positions in use of segment `k` in image order: 6k to 6k + 5 below the entry count (R141). -/
def Image.segment (i : Image) (count k : Nat) : List (Option EntryRecord) := ((i.used count).drop (6 * k)).take 6

/-- NEW: the working entries whose id no kept position holds (R143). -/
def countFresh (t : List Entry) (kept : List Byte) : Nat := (t.filter (fun e => !kept.contains e.id)).length

/-- The active image and the retention unit's entry count of it (R141). -/
def State.auditedPositions (s : State) (k : Nat) : List (Option EntryRecord) :=
  match s.activeImage with
  | some i => (s.array.get i).segment (s.imageInfo.get i).count k
  | none => []

/-- The sweep after the end of the segment its pointer names (R141 to R143). -/
def State.endSegment (s : State) : Audit :=
  let a := (s.auditedPositions s.audit.pointer).foldl (Audit.judgePosition s.table) s.audit
  let a := { a with pointer := s.audit.pointer + 1 }
  if s.audit.pointer < 7 then a else { a with status := .allDone, fresh := countFresh s.table a.kept }

/-- AUDIT_SEGMENT_END (R141 to R144): after segment 7 the unit is IDLE, and damage asks for a REPAIR save. -/
def execAuditSegmentEnd (faults : List ArrayFault) (s : State) : Out :=
  .next <|
    match s.mode with
    | .auditing =>
      let t := { s with array := failArray s.array faults }
      let u := { t with audit := t.endSegment }
      if s.audit.pointer < 7 then u
      else
        let v := { u with mode := .idle }
        if 0 < v.audit.damaged then v.requestSave .ofRepair else v
    | .loading => s
    | .idle => s
    | .saving _ _ => s
    | .held => s
    | .faulted => s

end Sys2Proof.Machine
end

