-- ==== Sys2Proof/Machine/Frames.lean ====
section
/-! DEFINITION. The frames of the ports but PORT RESET, IDENTIFY and UNKNOWN_COMMAND (chapter 9). -/

namespace Sys2Proof.Machine

/-! ## Frames -/

/-- Bytes returned for a COMMAND, PORT RESET or BAD_KIND frame of `n` bytes after the kind byte: 00h for every byte of the
frame, the kind byte included (R148). -/
def zeros (n : Nat) : List Byte := List.replicate (n + 1) 0

/-- The frame result of a COMMAND frame, from the bytes after its kind byte and the slot it finds (R149). -/
def judgeCommand (bytes : List Byte) (slot : SlotState) : FrameResult :=
  let n := bytes.length + 1
  let len := (byteAt 2 bytes).toNat
  if n < 4 then .truncated
  else if 58 < len then .overlong
  else if n < len + 5 then .truncated
  else if len + 5 < n then .overlong
  else if sum8 (0xC3 :: bytes) ≠ 0 then .badCheck
  else if slot ≠ .empty then .slotBusy
  else .accepted

/-- The slot an accepted COMMAND frame leaves: WAITING with its tag, code and parameters (R150). -/
def acceptCommand (bytes : List Byte) : Slot :=
  { state := .waiting
    tag := byteAt 0 bytes
    code := byteAt 1 bytes
    params := (bytes.drop 3).take (byteAt 2 bytes).toNat
    response := none }

/-- COMMAND_FRAME (R148 to R150). -/
def execCommandFrame (p : Port) (bytes : List Byte) (s : State) : Out :=
  .next <| s.takeFrame p (fun u =>
    let r := judgeCommand bytes u.slot.state
    let u' := { u with frameResult := r, reply := zeros bytes.length }
    s.setPort p (if r = .accepted then { u' with slot := acceptCommand bytes } else u'))

/-- The POLL summary of a port, check byte included (10.1.1, R153, R166). -/
def State.summary (s : State) (p : Port) (u : PortUnit) : List Byte :=
  let body :=
    [s.partByte, u.slot.state.toByte, u.slot.tag, u.frameResult.toByte, (s.notices.get p).state.toByte,
     s.verdict.toByte] ++ be16 s.verdictSeq
  body ++ [checkByte body]

/-- POLL (R153): the summary, and nothing changes but what SDO_x showed. -/
def execPoll (p : Port) (clocked : Nat) (s : State) : Out :=
  .next <| s.takeFrame p (fun u => s.setPort p { u with reply := clockOut clocked (s.summary p u) })

/-- The header of a FETCH that finds no response (R155). -/
def notReady (x : Slot) : List Byte :=
  match x.state with
  | .empty => responseBytes ⟨.notReady, []⟩ 0 0
  | .waiting => responseBytes ⟨.notReady, []⟩ x.tag x.code
  | .running => responseBytes ⟨.notReady, []⟩ x.tag x.code
  | .done => responseBytes ⟨.notReady, []⟩ x.tag x.code

/-- FETCH (R154, R155): the response of a DONE slot, which becomes EMPTY when every byte was clocked out and keeps its tag;
otherwise NOT_READY. -/
def execFetch (p : Port) (clocked : Nat) (s : State) : Out :=
  .next <| s.takeFrame p (fun u =>
    match u.slot.state, u.slot.response with
    | .done, some a =>
      let bs := responseBytes a u.slot.tag u.slot.code
      let slot := if bs.length ≤ clocked then { Slot.reset with tag := u.slot.tag } else u.slot
      s.setPort p { u with reply := clockOut clocked bs, slot := slot }
    | _, _ => s.setPort p { u with reply := clockOut clocked (notReady u.slot) })

/-- BAD_KIND_FRAME (R148): the frame result alone; a kind byte the part knows makes no such frame. A frame of no whole
byte is ignored: it changes no slot and no frame result, but its release ends a frame that was to be ignored (R163). -/
def execBadKindFrame (p : Port) (kind : Option Byte) (clocked : Nat) (s : State) : Out :=
  .next <|
    match kind with
    | none => s.takeFrame p (fun _ => s)
    | some k =>
      if knownKinds.contains k then s
      else s.takeFrame p (fun u => s.setPort p { u with frameResult := .badKind, reply := zeros clocked })

/-! ## IDENTIFY and UNKNOWN_COMMAND -/

/-- What IDENTIFY answers (R164, 10.2.1). -/
def identifyAnswer (p : Port) : Answer :=
  ⟨.ok, be16 Config.vendorCode ++ be16 Config.partCode ++ [1, 48, 8, 4, 3, 4, 12, Port.toByte p]⟩

/-- IDENTIFY (R164). -/
def execIdentify (p : Port) (s : State) : Out :=
  .next (s.takeCommand p (· == 0x01)
    (fun ps t => t.direct noIdent parseNone (fun _ u => (u, identifyAnswer p)) ps))

/-- UNKNOWN_COMMAND (R160): answered with no result bytes; nothing changes. -/
def execUnknownCommand (p : Port) (s : State) : Out :=
  .next (s.takeCommand p (fun code => !knownCodes.contains code) (fun _ t => (t, ⟨.unknownCommand, []⟩)))

end Sys2Proof.Machine
end

