-- ==== Sys2Proof/Machine/Observations.lean ====
section
/-! DEFINITION. REPORT, BIND_INPUT, READ_INPUT and the events of the event inputs (chapter 3). -/

namespace Sys2Proof.Machine

/-! ## REPORT -/

/-- The first failing check of one item, in the order presence, permission, value (R45). -/
def checkItem (s : State) (p : Port) (item : Byte × Word16) : Option Status :=
  match findEntry item.1 s.table with
  | none => some .noEntry
  | some e =>
    if e.reporters.get p = false then some .notPermitted
    else
      match e.kind with
      | .level _ _ => none
      | .count _ => if item.2 = 0 then some .badParam else none
      | .rate _ _ _ _ _ _ _ => if item.2 = 0 then some .badParam else none

/-- The first failing item from index `n` on: its status, index and id (R45, R46). -/
def firstFailure (s : State) (p : Port) (n : Nat) : List (Byte × Word16) → Option (Status × Nat × Byte)
  | [] => none
  | item :: rest =>
    match checkItem s p item with
    | some st => some (st, n, item.1)
    | none => firstFailure s p (n + 1) rest

/-- The items applied in order (R47 to R50). -/
def applyItems (s : State) (items : List (Byte × Word16)) : State :=
  items.foldl (fun t item => t.writeEntry item.1 (Entry.observe item.2)) s

/-- A REPORT that passed its range check (R45 to R51). -/
def applyReport (p : Port) (items : List (Byte × Word16)) (s : State) : State × Answer :=
  match firstFailure s p 0 items with
  | some (st, n, id) => (s, refuse st [byteOf n, id])
  | none => ((applyItems s items).recompute (.report p), ⟨.ok, [byteOf items.length]⟩)

/-- What a REPORT that fails its form check carries: 255 and 0 (R44). -/
def reportIdent (_ : List Byte) : List Byte := [255, 0]

/-- REPORT's request at the table. -/
def requestReport (p : Port) (ps : List Byte) (t : State) : State × Answer :=
  t.direct reportIdent parseReport (applyReport p) ps

/-- REPORT (R44 to R52). -/
def execReport (p : Port) (s : State) : Out := .next (s.takeCommand p (· == 0x16) (requestReport p))

/-! ## BIND_INPUT and READ_INPUT -/

/-- Binding, filter and edge of an input are written as one (R60). -/
def State.bind (s : State) (x : BindParams) : State :=
  (s.setInput x.input { s.inputs[x.input] with binding := x.binding, filter := x.filter, edge := x.edge }).markSettings

/-- BIND_INPUT's state checks and effect (R59, R60). -/
def applyBind (x : BindParams) (s : State) : State × Answer :=
  match x.binding with
  | none => (s.bind x, ⟨.ok, [byteOf x.input]⟩)
  | some id =>
    match findEntry id s.table with
    | none => (s, refuse .noEntry [id])
    | some e =>
      match e.kind with
      | .level _ _ => (s, refuse .badKind [id])
      | .count _ => (s.bind x, ⟨.ok, [byteOf x.input]⟩)
      | .rate _ _ _ _ _ _ _ => (s.bind x, ⟨.ok, [byteOf x.input]⟩)

/-- BIND_INPUT's request at the table. -/
def requestBindInput (p : Port) (ps : List Byte) (t : State) : State × Answer :=
  t.structural p .bindInput (identAt 1) parseBind applyBind ps

/-- BIND_INPUT (R59, R60). Its identifier field is the entry id, its second byte (R168). -/
def execBindInput (p : Port) (s : State) : Out := .next (s.takeCommand p (· == 0x40) (requestBindInput p))

/-- What READ_INPUT answers (R62). -/
def readInputAnswer (s : State) (i : Fin 4) : Answer :=
  let e := s.inputs[i]
  ⟨.ok, [byteOf i, e.binding.getD 0, e.filter.toByte, e.edge.toByte] ++ be32 e.accepted ++ be32 e.unbound⟩

/-- READ_INPUT (R62). -/
def execReadInput (p : Port) (s : State) : Out :=
  .next (s.takeCommand p (· == 0x41)
    (fun ps t => t.direct (identAt 0) parseInput (fun i u => (u, readInputAnswer u i)) ps))

/-! ## The pins -/

/-- The pin level a leading edge brings (R53): high for RISE, low for FALL. -/
def Edge.active : Edge → Bool
  | .rise => true
  | .fall => false

/-- EVENT_INPUT_EDGE (R53, R58): the pin goes to the level of the edge in force. While the part is not READY the edge is
not judged. An edge that comes while a pulse is judged (the edge setting changed meanwhile) ends that pulse and begins
none. One less than 5 µs after the last acceptance is ignored. With filter OFF the pulse is accepted at once. A pin that
already stands at that level gives no edge (log entries 1 and 20). -/
def execEventInputEdge (i : Fin 4) (soon : Bool) (s : State) : Out :=
  let e := s.inputs[i]
  let moved := s.setInput i { e with level := e.edge.active }
  .next <|
    if e.level = e.edge.active then s
    else if !s.ready then moved
    else if e.judging.isSome then s.setInput i { e with level := e.edge.active, judging := none }
    else if soon && e.acceptedOnce then moved
    else
      match e.filter with
      | .off => moved.acceptPulse i
      | .us1 => s.setInput i { e with level := e.edge.active, judging := some ⟨e.filter, e.edge⟩ }
      | .us10 => s.setInput i { e with level := e.edge.active, judging := some ⟨e.filter, e.edge⟩ }
      | .us100 => s.setInput i { e with level := e.edge.active, judging := some ⟨e.filter, e.edge⟩ }

/-- EVENT_INPUT_RETURN (R53): the pin leaves the level of the leading edge. A pulse being judged is rejected and counted
nowhere; the input is armed again. -/
def execEventInputReturn (i : Fin 4) (s : State) : Out :=
  let e := s.inputs[i]
  let lead := match e.judging with
    | some j => j.edge
    | none => e.edge
  .next (if e.level = lead.active then s.setInput i { e with level := !lead.active, judging := none } else s)

/-- FILTER_WIDTH_ELAPSED (R53, R54): the pulse being judged is accepted. -/
def execFilterWidthElapsed (i : Fin 4) (s : State) : Out :=
  .next (if s.ready && (s.inputs[i]).judging.isSome then s.acceptPulse i else s)

/-! ## Folds -/

/-- What a fold does to the bound entry: +1 as a REPORT item of value 1, but a RATE entry whose total has saturated takes
no unsaved mark (R55). -/
def Entry.foldMarked (e : Entry) : Option Entry :=
  match e.kind with
  | .count _ => some (e.observe 1)
  | .rate _ _ _ total _ _ _ => if total = 0xFFFFFFFF then none else some (e.observe 1)
  | .level _ _ => none

/-- The fold into a RATE entry whose total has saturated: the tally alone moves, and no mark is set (R55). -/
def Entry.foldUnmarked (e : Entry) : Entry :=
  match e.kind with
  | .rate _ _ _ total _ _ _ => if total = 0xFFFFFFFF then e.observe 1 else e
  | .count _ => e
  | .level _ _ => e

/-- A pulse folded into the entry of this id (R55). -/
def State.foldEntry (s : State) (id : Byte) : State :=
  State.writeEntries { s with table := s.table.map (fun e => if e.id = id then e.foldUnmarked else e) }
    (fun e => if e.id = id then e.foldMarked else none)

/-- PULSE_FOLD (R55, R56): the oldest fold request of the input is taken under the binding the table holds now. -/
def execPulseFold (i : Fin 4) (s : State) : Out :=
  let e := s.inputs[i]
  .next <|
    if s.ready && decide (0 < e.folds) then
      let t := s.setInput i { e with folds := e.folds - 1 }
      match e.binding with
      | some id =>
        if (findEntry id s.table).isSome then (t.foldEntry id).recompute (.pulse i)
        else s.setInput i { e with folds := e.folds - 1, unbound := e.unbound + 1 }
      | none => s.setInput i { e with folds := e.folds - 1, unbound := e.unbound + 1 }
    else s

end Sys2Proof.Machine
end

