-- ==== Sys2Proof/Machine/Retention.lean ====
section
/-! DEFINITION. Saves, autosave, the power-fail warning and READ_RETENTION (chapter 7). -/

namespace Sys2Proof.Machine

/-! ## SAVE and SET_AUTOSAVE -/

/-- SAVE (R135, R161): a granted SAVE with no parameters goes to the retention unit and its slot stays RUNNING until it is
answered; with parameters it is answered BAD_PARAM. -/
def execSave (p : Port) (s : State) : Out :=
  .next <|
    if s.canTake p (· == 0x60) then
      match parseNone (s.slot p).params with
      | some _ => (s.grant p).requestPortSave p
      | none => (s.grant p).placeAnswer p ⟨.badParam, []⟩
    else s

/-- The interval timer loaded with the interval, 60000 ticks a minute; 0 when it does not run (R134). -/
def State.reloadTimer (s : State) : State := { s with intervalTimer := s.autosaveInterval.toNat * 60000 }

/-- SET_AUTOSAVE's effect (R133). -/
def applySetAutosave (x : Bool × Word16) (s : State) : State × Answer :=
  (({ s with autosaveOnWorsen := x.1, autosaveInterval := x.2 } : State).reloadTimer.markSettings,
   ⟨.ok, [flagByte x.1] ++ be16 x.2⟩)

/-- SET_AUTOSAVE's request at the table. -/
def requestSetAutosave (p : Port) (ps : List Byte) (t : State) : State × Answer :=
  t.structural p .setAutosave noIdent parseAutosave applySetAutosave ps

/-- SET_AUTOSAVE (R133). -/
def execSetAutosave (p : Port) (s : State) : Out := .next (s.takeCommand p (· == 0x61) (requestSetAutosave p))

/-! ## READ_RETENTION -/

/-- The generation field of an image: present while it is VALID (R172). -/
def ImageInfo.shownGeneration (i : ImageInfo) : Option Word32 :=
  match i.state with
  | .valid => some i.generation
  | .blank => none
  | .invalid => none

/-- The pending save, if there is one (R122). -/
def State.pendingSave (s : State) : Option PendingSave :=
  match s.mode with
  | .saving _ w => w
  | .loading => none
  | .idle => none
  | .auditing => none
  | .held => none
  | .faulted => none

/-- The save causes of the active image (R137). -/
def State.activeCauses (s : State) : Causes :=
  match s.activeImage with
  | some i => (s.imageInfo.get i).causes
  | none => Causes.none

/-- The interval time left in whole seconds, rounded down; absent when the interval is 0 (R137). -/
def State.intervalLeft (s : State) : Option Word32 :=
  if s.autosaveInterval = 0 then none else some (BitVec.ofNat 32 (s.intervalTimer / 1000))

/-- A bit of the presence byte. -/
def presenceBit {α : Type} (x : Option α) (weight : Byte) : Byte := if x.isSome then weight else 0

/-- The 34 bytes of READ_RETENTION (10.4.3, R137, R172). -/
def readRetentionAnswer (s : State) : Answer :=
  let ga := s.imageInfo.a.shownGeneration
  let gb := s.imageInfo.b.shownGeneration
  let w := s.pendingSave
  let left := s.intervalLeft
  ⟨.ok,
    [s.imageInfo.a.state.toByte, s.imageInfo.b.state.toByte, imageByte s.activeImage,
     presenceBit ga 1 + presenceBit gb 2 + presenceBit w 4 + presenceBit left 8 + presenceBit s.sinceSave 16]
    ++ be32 (ga.getD 0) ++ be32 (gb.getD 0)
    ++ [s.activeCauses.toByte, byteOf s.droppedAtLoad, s.mode.toByte, byteOf s.failures,
        (match w with | some x => x.causes.toByte | none => 0), flagByte s.pfwAsserted, flagByte s.autosaveOnWorsen]
    ++ be16 s.autosaveInterval ++ be32 (left.getD 0) ++ be32 (s.sinceSave.getD 0)
    ++ [flagByte s.settingsUnsaved, 0, 0, 0, 0]⟩

/-- READ_RETENTION (R137). -/
def execReadRetention (p : Port) (s : State) : Out :=
  .next (s.takeCommand p (· == 0x62)
    (fun ps t => t.direct noIdent parseNone (fun _ u => (u, readRetentionAnswer u)) ps))

/-! ## The steps of a save -/

/-- OPEN_MARKING_WRITTEN (R125): the image being written is reported INVALID from here on. -/
def execOpenMarkingWritten (s : State) : Out :=
  .next <|
    match s.mode with
    | .saving sv w =>
      match sv.stage with
      | .erasing =>
        { s with
          mode := .saving { sv with stage := .marked } w
          array := s.array.set sv.target { s.array.get sv.target with header := .openMarked }
          imageInfo := s.imageInfo.set sv.target { s.imageInfo.get sv.target with state := .invalid } }
      | .marked => s
    | .loading => s
    | .idle => s
    | .auditing => s
    | .held => s
    | .faulted => s

/-- An entry's mark cleared if the note still holds it (R126, R136). -/
def SaveNote.clearMark (n : SaveNote) (e : Entry) : Entry :=
  if n.ids.contains e.id then { e with unsaved := false } else e

/-- The older image after a success: cancelled at the largest generation, else as it stands (R125, R126). -/
def Save.olderArray (sv : Save) (x : PerImage Image) : PerImage Image :=
  if sv.cancelsOlder then x.set sv.target.other { x.get sv.target.other with header := .cancelled } else x

/-- The retention unit's record of the older image after a success. -/
def Save.olderInfo (sv : Save) (x : PerImage ImageInfo) : PerImage ImageInfo :=
  if sv.cancelsOlder then x.set sv.target.other { x.get sv.target.other with state := .invalid } else x

/-- A save succeeds: its image is VALID and active, noted marks are cleared, its requesters answered (R126). -/
def State.saveSucceeds (s : State) (sv : Save) : State :=
  let t : State :=
    { s with
      array := sv.olderArray (s.array.set sv.target sv.image)
      imageInfo := sv.olderInfo
        (s.imageInfo.set sv.target ⟨.valid, sv.generation, sv.causes, sv.image.positions.length⟩)
      activeImage := some sv.target
      table := s.table.map sv.note.clearMark
      settingsUnsaved := s.settingsUnsaved && !sv.note.settings
      failures := 0
      sinceSave := some 0 }
  t.reloadTimer.placeAnswers sv.requesters ⟨.ok, [imageByte (some sv.target)] ++ be32 sv.generation⟩

/-- A save fails: its header is cancelled, the failure is counted, its requesters answered (R127). -/
def State.saveFails (s : State) (sv : Save) : State :=
  State.placeAnswers
    { s with
      array := s.array.set sv.target { s.array.get sv.target with header := .cancelled }
      imageInfo := s.imageInfo.set sv.target { s.imageInfo.get sv.target with state := .invalid }
      failures := s.failures + 1 }
    sv.requesters ⟨.saveFailed, [byteOf (s.failures + 1)]⟩

/-- What follows a save: FAULTED with the pending save dropped, the pending save's own run, HELD, or IDLE (R128, R129). -/
def State.afterSave (s : State) (w : Option PendingSave) : State :=
  if 3 ≤ s.failures then
    let t := { s with mode := .faulted }
    match w with
    | some x => t.placeAnswers x.requesters ⟨.retentionFault, []⟩
    | none => t
  else
    match w with
    | some x => s.startSave x.requesters x.causes
    | none => if s.pfwAsserted then { s with mode := .held } else { s with mode := .idle }

/-- SAVE_END (R126 to R129): with what the read-back found. -/
def execSaveEnd (readBackOk : Bool) (s : State) : Out :=
  .next <|
    match s.mode with
    | .saving sv w => (if readBackOk then s.saveSucceeds sv else s.saveFails sv).afterSave w
    | .loading => s
    | .idle => s
    | .auditing => s
    | .held => s
    | .faulted => s

/-! ## The power-fail warning -/

/-- The effect of an assertion on the retention unit (R131). -/
def State.powerFails (s : State) : State :=
  match s.mode with
  | .idle => s.startSave .none .ofPowerFail
  | .auditing => (s.abortAudit .abortedBySave).startSave .none .ofPowerFail
  | .saving sv w => { s with mode := .saving sv (some (joinPending w .none .ofPowerFail)) }
  | .loading => s
  | .held => s
  | .faulted => s

/-- PFW_N_ASSERTION (R131). A line already asserted gives no edge; without power or while RST_N is asserted the level
alone moves. -/
def execPfwAssertion (s : State) : Out :=
  .next <|
    if s.pfwAsserted then s
    else if s.live then State.powerFails { s with pfwAsserted := true }
    else { s with pfwAsserted := true }

/-- PFW_N_RELEASE (R132): HELD becomes IDLE; in any other state the level alone moves. -/
def execPfwRelease (s : State) : Out :=
  let t := { s with pfwAsserted := false }
  .next <|
    if s.pfwAsserted then
      match s.mode with
      | .held => { t with mode := .idle }
      | .loading => t
      | .idle => t
      | .saving _ _ => t
      | .auditing => t
      | .faulted => t
    else s

/-! ## The interval timer -/

/-- INTERVAL_TIMER_EXPIRY (R134): a timer that runs and has come to 0 makes an INTERVAL request and is reloaded. A successful
save or a SET_AUTOSAVE taken between the tick that brought it to 0 and this step reloads it, and no INTERVAL request is then
made: DESIGN CHOICE (log entry 11). -/
def execIntervalTimerExpiry (s : State) : Out :=
  .next <|
    if s.ready && s.autosaveInterval != 0 && s.intervalTimer == 0 then s.reloadTimer.requestSave .ofInterval else s

end Sys2Proof.Machine
end

