-- ==== Sys2Proof/Machine/Table.lean ====
section
/-! DEFINITION. The commands of the condition table: DEFINE, RETIRE, TUNE, CLEAR, READ_ENTRY, LIST (chapter 1). -/

namespace Sys2Proof.Machine

/-! ## DEFINE -/

/-- The entry a DEFINE creates (R8, R9). -/
def DefineParams.entry (x : DefineParams) : Entry :=
  Entry.refresh
    { id := x.id, cls := x.cls, reporters := x.reporters, trip := x.trip, step := x.step, grade := freshGrade,
      lowMark := freshGrade, everTripped := false, unsaved := true, kind := x.kind }

/-- Whether a kind part names the high counter of a joined pair (R7). -/
def State.badWindow (s : State) (k : KindPart) : Bool :=
  match k with
  | .rate _ w _ _ _ _ _ => isHigh w && s.pairJoined w
  | .count _ => false
  | .level _ _ => false

/-- A new entry goes into the table, its mark set (R8). -/
def State.addEntry (s : State) (e : Entry) : State :=
  { s with table := insertEntry e s.table, mode := s.mode.withdrawIds (fun id => id == e.id) }

/-- DEFINE's state checks, in their order, and its effect (R7 to R9). -/
def applyDefine (x : DefineParams) (s : State) : State × Answer :=
  if (findEntry x.id s.table).isSome then (s, refuse .idInUse [x.id])
  else if Config.entries ≤ s.table.length then (s, refuse .tableFull [x.id])
  else if s.badWindow x.kind then (s, refuse .badWindow [x.id])
  else ((s.addEntry x.entry).definitionChange.recompute (.define x.id), ⟨.ok, [x.id]⟩)

/-- DEFINE's request at the table. -/
def requestDefine (p : Port) (ps : List Byte) (t : State) : State × Answer :=
  t.structural p .define (identAt 0) parseDefine applyDefine ps

/-- DEFINE (R7 to R9): a grant, a range check, then a proposal on a frozen table or the definition. -/
def execDefine (p : Port) (s : State) : Out := .next (s.takeCommand p (· == 0x10) (requestDefine p))

/-! ## RETIRE -/

/-- Inputs bound to an id become unbound (R10). -/
def State.unbindAll (s : State) (id : Byte) : State :=
  { s with
    inputs := vec4 (fun i =>
      let e := s.inputs[i]
      if e.binding = some id then { e with binding := none } else e) }

/-- The entry leaves the table and the note of a save in flight (R10, R124). -/
def State.dropEntry (s : State) (id : Byte) : State :=
  { s with table := removeEntry id s.table, mode := s.mode.withdrawIds (fun j => j == id) }

/-- RETIRE's state check and effect (R10). -/
def applyRetire (id : Byte) (s : State) : State × Answer :=
  match findEntry id s.table with
  | none => (s, refuse .noEntry [id])
  | some _ =>
    ((((s.dropEntry id).unbindAll id).markSettings.definitionChange).recompute (.retire id), ⟨.ok, [id]⟩)

/-- RETIRE's request at the table. -/
def requestRetire (p : Port) (ps : List Byte) (t : State) : State × Answer :=
  t.structural p .retire (identAt 0) parseId applyRetire ps

/-- RETIRE (R10 to R12). -/
def execRetire (p : Port) (s : State) : Out := .next (s.takeCommand p (· == 0x11) (requestRetire p))

/-! ## TUNE -/

/-- The kind check of a TUNE against the entry found, and the kind part it writes (R13, R14). -/
def TuneParams.kindFor (x : TuneParams) (k : KindPart) : Option KindPart :=
  match k with
  | .count total => if x.allowance = 0 ∧ x.settle = 0 then some (.count total) else none
  | .rate _ w _ total tally last seen => some (.rate x.allowance w x.settle total tally last seen)
  | .level _ reading => if x.settle = 0 then some (.level x.allowance reading) else none

/-- The entry after a TUNE: definition fields written, grade recomputed from what the entry holds (R14, R15). -/
def TuneParams.tune (x : TuneParams) (k : KindPart) (e : Entry) : Entry :=
  let e' := { e with cls := x.cls, reporters := x.reporters, trip := x.trip, step := x.step, kind := k }
  e'.writeGrade e'.tunedGrade

/-- TUNE's state checks and effect (R13 to R15). -/
def applyTune (x : TuneParams) (s : State) : State × Answer :=
  match findEntry x.id s.table with
  | none => (s, refuse .noEntry [x.id])
  | some e =>
    match x.kindFor e.kind with
    | none => (s, refuse .badParam [x.id])
    | some k =>
      ((s.writeEntry x.id (x.tune k)).definitionChange.recompute (.tune x.id), ⟨.ok, [x.id]⟩)

/-- TUNE's request at the table. -/
def requestTune (p : Port) (ps : List Byte) (t : State) : State × Answer :=
  t.structural p .tune (identAt 0) parseTune applyTune ps

/-- TUNE (R13 to R15). -/
def execTune (p : Port) (s : State) : Out := .next (s.takeCommand p (· == 0x12) (requestTune p))

/-! ## CLEAR -/

/-- CLEAR's state check and effect (R16). -/
def applyClear (id : Byte) (s : State) : State × Answer :=
  match findEntry id s.table with
  | none => (s, refuse .noEntry [id])
  | some _ => ((s.writeEntry id Entry.refresh).recompute (.clear id), ⟨.ok, [id]⟩)

/-- CLEAR's request at the table. -/
def requestClear (p : Port) (ps : List Byte) (t : State) : State × Answer :=
  t.structural p .clear (identAt 0) parseId applyClear ps

/-- CLEAR (R16). -/
def execClear (p : Port) (s : State) : Out := .next (s.takeCommand p (· == 0x13) (requestClear p))

/-! ## READ_ENTRY and LIST -/

/-- A field of the kind part: a presence byte, and the value when present (R170). -/
def presentField (x : Option (List Byte)) : List Byte :=
  match x with
  | some bs => 1 :: bs
  | none => [0]

/-- The eight kind fields of the READ_ENTRY record, in their order (10.4.1). -/
def KindPart.fields : KindPart → List (Option (List Byte))
  | .count total => [none, none, none, some (be32 total), none, none, none, none]
  | .rate a w n total tally last seen =>
    [some (be16 a), some [byteOf w], some [byteOf n], some (be32 total), some (be32 tally), last.map be32,
     some [byteOf seen], none]
  | .level a reading => [some (be16 a), none, none, none, none, none, none, reading.map be16]

/-- The READ_ENTRY record (10.4.1, R17, R170). -/
def Entry.record (e : Entry) : List Byte :=
  [e.id, e.kind.toByte, e.cls.toByte, setByte e.reporters, byteOf e.trip] ++ be16 e.step
    ++ [byteOf e.grade, byteOf e.lowMark,
        (if e.tripped then 1 else 0) + (if e.everTripped then 2 else 0) + (if e.unsaved then 4 else 0)]
    ++ e.kind.fields.flatMap presentField

/-- What READ_ENTRY answers (R17). -/
def readEntryAnswer (s : State) (id : Byte) : Answer :=
  match findEntry id s.table with
  | none => refuse .noEntry [id]
  | some e => ⟨.ok, e.record⟩

/-- READ_ENTRY (R17). -/
def execReadEntry (p : Port) (s : State) : Out :=
  .next (s.takeCommand p (· == 0x14)
    (fun ps t => t.direct (identAt 0) parseId (fun id u => (u, readEntryAnswer u id)) ps))

/-- Ids above an after id, in ascending order (R18, R41). -/
def idsAbove (after : Byte) (t : List Entry) : List Byte :=
  (t.map (fun e => e.id)).filter (fun id => decide (after.toNat < id.toNat))

/-- What LIST answers: count, ids, more (R18, R171). -/
def listAnswer (s : State) (after : Byte) : Answer :=
  let ids := idsAbove after s.table
  let page := ids.take 16
  ⟨.ok, [byteOf page.length] ++ page ++ [flagByte (decide (16 < ids.length))]⟩

/-- LIST (R18). -/
def execList (p : Port) (s : State) : Out :=
  .next (s.takeCommand p (· == 0x15)
    (fun ps t => t.direct noIdent parseAfter (fun after u => (u, listAnswer u after)) ps))

end Sys2Proof.Machine
end

