-- ==== Sys2Proof/Machine/Windows.lean ====
section
/-! DEFINITION. The window commands, ticks' and pulses' decrements, closes and early looks (chapter 4). -/

namespace Sys2Proof.Machine

/-! ## SET_WINDOW -/

/-- SET_WINDOW's state check and effect: WINDOW_RUNNING, or the counter written and preset (R74, R75). On the high counter
of a joined pair only reload and compare are written. -/
def applySetWindow (x : SetWindowParams) (s : State) : State × Answer :=
  let w := x.index
  let base := s.baseCounter w
  if (s.windows[base]).running || (s.windows[w]).running then (s, refuse .windowRunning [byteOf w])
  else
    let c := s.windows[w]
    let c' : Counter :=
      if s.counts w then { c with source := x.source, reload := x.reload, compare := x.compare }
      else { c with reload := x.reload, compare := x.compare }
    (((s.setCounter w c').presetCounter base).markSettings, ⟨.ok, [byteOf w]⟩)

/-- SET_WINDOW's request at the table. -/
def requestSetWindow (p : Port) (ps : List Byte) (t : State) : State × Answer :=
  t.structural p .setWindow (identAt 0) parseSetWindow applySetWindow ps

/-- SET_WINDOW (R74, R75). -/
def execSetWindow (p : Port) (s : State) : Out := .next (s.takeCommand p (· == 0x30) (requestSetWindow p))

/-! ## JOIN_PAIR -/

/-- Whether a RATE entry of the table names counter `w` (R76). -/
def State.hasBound (s : State) (w : Fin 8) : Bool := s.table.any (fun e => e.boundTo w)

/-- A counter alone, STOPPED and preset to its own reload, nothing waiting (R78). -/
def Counter.stopped (c : Counter) : Counter :=
  { c with running := false, count := c.reload.toNat, phase := 0, waiting := [] }

/-- JOIN_PAIR's state checks and effect (R76 to R78): the flag is written, both counters stand STOPPED and preset, their
waiting requests are withdrawn, and the tallies bound to the low counter become 0. -/
def applyJoinPair (x : Fin 4 × Bool) (s : State) : State × Answer :=
  let k := x.1
  let lo := lowOf k
  let hi := highOf k
  if (s.windows[lo]).running || (s.windows[hi]).running then (s, refuse .windowRunning [byteOf k])
  else if x.2 && s.hasBound hi then (s, refuse .windowBound [byteOf k])
  else
    let t := ((s.setCounter lo (s.windows[lo]).stopped).setCounter hi (s.windows[hi]).stopped)
    let t := { t with joined := t.joined.set k x.2 }
    (((t.presetCounter lo).zeroTallies lo).markSettings, ⟨.ok, [byteOf k]⟩)

/-- JOIN_PAIR's request at the table. -/
def requestJoinPair (p : Port) (ps : List Byte) (t : State) : State × Answer :=
  t.structural p .joinPair (identAt 0) parseJoinPair applyJoinPair ps

/-- JOIN_PAIR (R76 to R78). -/
def execJoinPair (p : Port) (s : State) : Out := .next (s.takeCommand p (· == 0x31) (requestJoinPair p))

/-! ## START_WINDOW, STOP_WINDOW and PRESET_WINDOW -/

/-- The run state of a counter, or of its joined pair, is written (R79). -/
def State.setRunning (s : State) (w : Fin 8) (on : Bool) : State :=
  (s.setCounter (s.baseCounter w) { s.windows[s.baseCounter w] with running := on }).markSettings

/-- START_WINDOW's effect (R79). -/
def applyStartWindow (w : Fin 8) (s : State) : State × Answer := (s.setRunning w true, ⟨.ok, [byteOf w]⟩)

/-- START_WINDOW's request at the table. -/
def requestStartWindow (p : Port) (ps : List Byte) (t : State) : State × Answer :=
  t.structural p .startWindow (identAt 0) parseCounter applyStartWindow ps

/-- START_WINDOW (R79). -/
def execStartWindow (p : Port) (s : State) : Out := .next (s.takeCommand p (· == 0x32) (requestStartWindow p))

/-- STOP_WINDOW's effect (R79). -/
def applyStopWindow (w : Fin 8) (s : State) : State × Answer := (s.setRunning w false, ⟨.ok, [byteOf w]⟩)

/-- STOP_WINDOW's request at the table. -/
def requestStopWindow (p : Port) (ps : List Byte) (t : State) : State × Answer :=
  t.structural p .stopWindow (identAt 0) parseCounter applyStopWindow ps

/-- STOP_WINDOW (R79). -/
def execStopWindow (p : Port) (s : State) : Out := .next (s.takeCommand p (· == 0x33) (requestStopWindow p))

/-- PRESET_WINDOW's effect: count and phase preset, bound tallies 0, waiting requests withdrawn; no mark (R80). -/
def applyPresetWindow (w : Fin 8) (s : State) : State × Answer :=
  ((s.presetCounter (s.baseCounter w)).zeroTallies (s.baseCounter w), ⟨.ok, [byteOf w]⟩)

/-- PRESET_WINDOW's request at the table. -/
def requestPresetWindow (p : Port) (ps : List Byte) (t : State) : State × Answer :=
  t.structural p .presetWindow (identAt 0) parseCounter applyPresetWindow ps

/-- PRESET_WINDOW (R80). -/
def execPresetWindow (p : Port) (s : State) : Out := .next (s.takeCommand p (· == 0x34) (requestPresetWindow p))

/-! ## READ_WINDOW -/

/-- The number of RATE entries bound to a counter (R82). -/
def State.boundCount (s : State) (w : Fin 8) : Nat := (s.table.filter (fun e => e.boundTo w)).length

/-- What READ_WINDOW answers (R82). -/
def readWindowAnswer (s : State) (w : Fin 8) : Answer :=
  let c := s.windows[w]
  let b := s.windows[s.baseCounter w]
  ⟨.ok, [byteOf w, flagByte (s.pairJoined w), c.source.toByte, c.source.selector] ++ be16 c.reload ++ be16 c.compare
    ++ be32 (BitVec.ofNat 32 (s.effectiveReload w)) ++ be32 (BitVec.ofNat 32 (s.effectiveCompare w))
    ++ [flagByte b.running] ++ be32 (BitVec.ofNat 32 b.count) ++ be32 c.closes ++ [byteOf (s.boundCount w)]⟩

/-- READ_WINDOW (R82). -/
def execReadWindow (p : Port) (s : State) : Out :=
  .next (s.takeCommand p (· == 0x35)
    (fun ps t => t.direct (identAt 0) parseCounter (fun w u => (u, readWindowAnswer u w)) ps))

/-! ## Decrements -/

/-- WINDOW_TICK_DECREMENT (R66, R68): a RUNNING TICK counter whose phase has reached its divider is decremented, and its
phase goes back by the divider, which leaves 0 when the decrement follows its tick (log entry 9). -/
def execWindowTickDecrement (w : Fin 8) (s : State) : Out :=
  let c := s.windows[w]
  .next <|
    match c.source with
    | .tick d =>
      if s.ready && s.counts w && c.running && decide (d.ticks ≤ c.phase) then
        (s.setCounter w { c with phase := c.phase - d.ticks }).decrement w
      else s
    | .event _ => s

/-- WINDOW_EVENT_DECREMENT (R67, R68, R81): a count of the input's pulses that waits for the counter is taken, as one event
of that counter's own. The counter decrements if it still counts, runs and takes its source from the input. -/
def execWindowEventDecrement (n : PulseCount) (s : State) : Out :=
  let i := n.input
  let w := n.counter
  let e := s.inputs[i]
  .next <|
    if s.ready && decide (0 < e.windowPulses[w]) then
      let t := s.setInput i { e with windowPulses := e.windowPulses.set w (e.windowPulses[w] - 1) }
      if s.takesPulse i w then t.decrement w else t
    else s

/-! ## Closes and early looks -/

/-- What a close does to a bound entry; entries not bound are left (R70). -/
def closeEntry (w : Fin 8) (e : Entry) : Option Entry := if e.boundTo w then some e.takeSample else none

/-- What an early look does to an entry (R27, R72). -/
def earlyEntry (w : Fin 8) (e : Entry) : Option Entry := if e.boundTo w then e.lookEarly else none

/-- WINDOW_CLOSE (R69 to R71): the oldest request of the counter, a close, is taken: closes since reset rises, every
bound entry takes its sample, and the verdict is recomputed. -/
def execWindowClose (w : Fin 8) (s : State) : Out :=
  let c := s.windows[w]
  .next <|
    match c.waiting with
    | .close :: rest =>
      if s.ready then
        ((s.setCounter w { c with waiting := rest, closes := c.closes + 1 }).writeEntries (closeEntry w)).recompute
          (.close w)
      else s
    | .early :: _ => s
    | [] => s

/-- EARLY_LOOK (R72): the oldest request of the counter, an early look, is taken. -/
def execEarlyLook (w : Fin 8) (s : State) : Out :=
  let c := s.windows[w]
  .next <|
    match c.waiting with
    | .early :: rest =>
      if s.ready then
        ((s.setCounter w { c with waiting := rest }).writeEntries (earlyEntry w)).recompute (.early w)
      else s
    | .close :: _ => s
    | [] => s

end Sys2Proof.Machine
end

