-- ==== Sys2Proof/Machine/Joint.lean ====
section
/-! DEFINITION. FREEZE, UNFREEZE and the commands on proposals (chapter 6). -/

namespace Sys2Proof.Machine

/-! ## FREEZE and UNFREEZE -/

/-- FREEZE's state check and effect; a lifetime of 0 writes 5000 (R98). -/
def applyFreeze (lifetime : Word16) (s : State) : State × Answer :=
  if s.frozen then (s, ⟨.frozen, be16 s.lifetime⟩)
  else
    let l := if lifetime = 0 then 5000 else lifetime
    (State.markSettings { s with frozen := true, lifetime := l }, ⟨.ok, be16 l⟩)

/-- FREEZE's request at the table. -/
def requestFreeze (_p : Port) (ps : List Byte) (t : State) : State × Answer :=
  t.direct noIdent parseLifetime applyFreeze ps

/-- FREEZE (R98). -/
def execFreeze (p : Port) (s : State) : Out := .next (s.takeCommand p (· == 0x50) (requestFreeze p))

/-- UNFREEZE on an unfrozen table (R109). -/
def applyUnfreezeAtGrant (_ : Unit) (s : State) : State × Answer := (s, ⟨.notFrozen, []⟩)

/-- UNFREEZE's request at the table. -/
def requestUnfreeze (p : Port) (ps : List Byte) (t : State) : State × Answer :=
  t.structural p .unfreeze noIdent parseNone applyUnfreezeAtGrant ps

/-- UNFREEZE (R109): NOT_FROZEN, or a proposal. -/
def execUnfreeze (p : Port) (s : State) : Out := .next (s.takeCommand p (· == 0x51) (requestUnfreeze p))

/-- An applied UNFREEZE clears the flag; the other OPEN proposals are discarded at the CONFIRM (R110). -/
def applyUnfreeze (_ : Unit) (s : State) : State × Answer := (State.markSettings { s with frozen := false }, ⟨.ok, []⟩)

/-! ## CONFIRM -/

/-- A held command with its parameters read again; they passed when the proposal was made (R104, log entry 26). -/
def applyHeldWith {α : Type} (ident : List Byte → List Byte) (parse : List Byte → Option α)
    (apply : α → State → State × Answer) (params : List Byte) (s : State) : State × Answer :=
  match parse params with
  | some x => apply x s
  | none => (s, refuse .badParam (ident params))

/-- The command a proposal holds, applied as if just granted (R104). -/
def applyHeld (code : StructuralCode) (params : List Byte) (s : State) : State × Answer :=
  match code with
  | .define => applyHeldWith (identAt 0) parseDefine applyDefine params s
  | .retire => applyHeldWith (identAt 0) parseId applyRetire params s
  | .tune => applyHeldWith (identAt 0) parseTune applyTune params s
  | .clear => applyHeldWith (identAt 0) parseId applyClear params s
  | .setWindow => applyHeldWith (identAt 0) parseSetWindow applySetWindow params s
  | .joinPair => applyHeldWith (identAt 0) parseJoinPair applyJoinPair params s
  | .startWindow => applyHeldWith (identAt 0) parseCounter applyStartWindow params s
  | .stopWindow => applyHeldWith (identAt 0) parseCounter applyStopWindow params s
  | .presetWindow => applyHeldWith (identAt 0) parseCounter applyPresetWindow params s
  | .bindInput => applyHeldWith (identAt 1) parseBind applyBind params s
  | .setAutosave => applyHeldWith noIdent parseAutosave applySetAutosave params s
  | .unfreeze => applyHeldWith noIdent parseNone applyUnfreeze params s

/-- Whether slot `k` holds an OPEN proposal. -/
def State.isOpen (s : State) (k : Fin 4) : Bool :=
  match s.proposals[k] with
  | some q => q.outcome.isNone
  | none => false

/-- Every proposal still OPEN is closed as DISCARDED, in the order the proposals were made (R110). -/
def State.discardOpen (s : State) : State :=
  s.madeOrder.foldl (fun t k => if t.isOpen k then t.closeProposal k .discarded else t) s

/-- The proposal in slot `k` applied and closed with its result; an UNFREEZE then discards the others (R104, R110). -/
def State.confirmProposal (s : State) (k : Fin 4) (q : Proposal) : State × Answer :=
  let r := applyHeld q.code q.params s
  let t := r.1.closeProposal k (.applied r.2.status)
  let u := if q.code = .unfreeze ∧ r.2.status = .ok then t.discardOpen else t
  (u, ⟨r.2.status, be16 q.number ++ r.2.result⟩)

/-- CONFIRM judged against the slots (R103). -/
def applyConfirm (p : Port) (n : Word16) (s : State) : State × Answer :=
  match s.findProposal n with
  | none => (s, ⟨.noProposal, be16 n⟩)
  | some k =>
    match s.proposals[k] with
    | none => (s, ⟨.noProposal, be16 n⟩)
    | some q =>
      match q.outcome with
      | some o => (s, ⟨.tooLate, be16 n ++ [o.toByte]⟩)
      | none => if q.proposer = p then (s, ⟨.selfConfirm, be16 n⟩) else s.confirmProposal k q

/-- CONFIRM's request at the table. -/
def requestConfirm (p : Port) (ps : List Byte) (t : State) : State × Answer :=
  t.direct noIdent parseWord (applyConfirm p) ps

/-- CONFIRM (R103, R104). -/
def execConfirm (p : Port) (s : State) : Out := .next (s.takeCommand p (· == 0x52) (requestConfirm p))

/-! ## WITHDRAW and READ_PROPOSAL -/

/-- WITHDRAW judged against the slots (R106). -/
def applyWithdraw (p : Port) (n : Word16) (s : State) : State × Answer :=
  match s.findProposal n with
  | none => (s, ⟨.noProposal, be16 n⟩)
  | some k =>
    match s.proposals[k] with
    | none => (s, ⟨.noProposal, be16 n⟩)
    | some q =>
      match q.outcome with
      | some o => (s, ⟨.tooLate, be16 n ++ [o.toByte]⟩)
      | none =>
        if q.proposer = p then (s.closeProposal k .withdrawn, ⟨.ok, be16 n⟩) else (s, ⟨.notProposer, be16 n⟩)

/-- WITHDRAW's request at the table. -/
def requestWithdraw (p : Port) (ps : List Byte) (t : State) : State × Answer :=
  t.direct noIdent parseWord (applyWithdraw p) ps

/-- WITHDRAW (R106). -/
def execWithdraw (p : Port) (s : State) : Out := .next (s.takeCommand p (· == 0x53) (requestWithdraw p))

/-- Proposal state code: 01h OPEN, 02h CLOSED (10.3). -/
def Proposal.stateByte (q : Proposal) : Byte := if q.outcome.isNone then 1 else 2

/-- The remaining lifetime as its two bytes. -/
def Proposal.remainingBytes (q : Proposal) : List Byte := be16 (BitVec.ofNat 16 q.remaining)

/-- One slot in full (10.2.2, R107). -/
def Proposal.bytes (q : Proposal) : List Byte :=
  be16 q.number ++ [Port.toByte q.proposer, q.stateByte, q.code.toByte, byteOf q.params.length] ++ q.params
    ++ q.remainingBytes
    ++ (match q.outcome with | some o => [1, o.toByte] | none => [0])

/-- One slot in the list of READ_PROPOSAL 0 (10.2.2, R108). -/
def Proposal.listBytes (q : Proposal) : List Byte :=
  be16 q.number ++ [Port.toByte q.proposer, q.stateByte, q.code.toByte] ++ q.remainingBytes

/-- The slots in use in the order their proposals were made (R108). -/
def State.proposalsMade (s : State) : List Proposal := s.madeOrder.filterMap (fun k => s.proposals[k])

/-- READ_PROPOSAL (R107, R108): a proposer that reads its own CLOSED proposal frees the slot. -/
def applyReadProposal (p : Port) (n : Word16) (s : State) : State × Answer :=
  if n = 0 then
    (s, ⟨.ok, [byteOf s.proposalsMade.length] ++ s.proposalsMade.flatMap Proposal.listBytes⟩)
  else
    match s.findProposal n with
    | none => (s, ⟨.noProposal, be16 n⟩)
    | some k =>
      match s.proposals[k] with
      | none => (s, ⟨.noProposal, be16 n⟩)
      | some q => (if q.outcome.isSome ∧ q.proposer = p then s.freeProposal k else s, ⟨.ok, q.bytes⟩)

/-- READ_PROPOSAL's request at the table. -/
def requestReadProposal (p : Port) (ps : List Byte) (t : State) : State × Answer :=
  t.direct noIdent parseWord (applyReadProposal p) ps

/-- READ_PROPOSAL (R107, R108). -/
def execReadProposal (p : Port) (s : State) : Out := .next (s.takeCommand p (· == 0x54) (requestReadProposal p))

/-! ## Expiry -/

/-- PROPOSAL_EXPIRY (R102): an OPEN proposal whose remaining lifetime has reached 0 closes as EXPIRED. -/
def execProposalExpiry (k : Fin 4) (s : State) : Out :=
  .next <|
    match s.proposals[k] with
    | some q => if s.ready ∧ q.outcome.isNone ∧ q.remaining = 0 then s.closeProposal k .expired else s
    | none => s

end Sys2Proof.Machine
end

