-- ==== Sys2Proof/Machine/Notices.lean ====
section
/-! DEFINITION. READ_VERDICT, ACK, SET_NOTICE, READ_HISTORY (chapters 2 and 5). -/

namespace Sys2Proof.Machine

/-- What READ_VERDICT answers (R41, R42). -/
def readVerdictAnswer (s : State) (after : Byte) : Answer :=
  let tripped := s.table.filter Entry.tripped
  let ids := idsAbove after tripped
  let page := ids.take 16
  ⟨.ok, [s.verdict.toByte] ++ be16 s.verdictSeq ++ be32 s.verdictSince ++ [byteOf tripped.length, byteOf page.length]
    ++ page ++ [flagByte (decide (16 < ids.length)), byteOf (s.table.filter (fun e => e.unsaved)).length]⟩

/-- READ_VERDICT (R41). -/
def execReadVerdict (p : Port) (s : State) : Out :=
  .next (s.takeCommand p (· == 0x20)
    (fun ps t => t.direct noIdent parseAfter (fun after u => (u, readVerdictAnswer u after)) ps))

/-- ACK judged against the port's notice and the current sequence (R88). -/
def applyAck (p : Port) (seq : Word16) (s : State) : State × Answer :=
  let n := s.notices.get p
  match n.state with
  | .clear => (s, ⟨.nothingPending, be16 s.verdictSeq⟩)
  | .pending =>
    if seq = s.verdictSeq then (s.setNotice p { n with state := .clear }, ⟨.ok, be16 s.verdictSeq⟩)
    else (s, ⟨.stale, be16 s.verdictSeq⟩)

/-- ACK's request at the table. -/
def requestAck (p : Port) (ps : List Byte) (t : State) : State × Answer :=
  t.direct noIdent parseWord (applyAck p) ps

/-- ACK (R88). -/
def execAck (p : Port) (s : State) : Out := .next (s.takeCommand p (· == 0x21) (requestAck p))

/-- SET_NOTICE's effect: the mask alone (R90). -/
def applySetNotice (p : Port) (m : NoticeMask) (s : State) : State × Answer :=
  (s.setNotice p { s.notices.get p with mask := m }, ⟨.ok, [m.toByte]⟩)

/-- SET_NOTICE's request at the table. -/
def requestSetNotice (p : Port) (ps : List Byte) (t : State) : State × Answer :=
  t.direct noIdent parseMask (applySetNotice p) ps

/-- SET_NOTICE (R90). -/
def execSetNotice (p : Port) (s : State) : Out := .next (s.takeCommand p (· == 0x22) (requestSetNotice p))

/-- A history record in its nine bytes (10.4.2). -/
def HistoryRecord.bytes (r : HistoryRecord) : List Byte :=
  be16 r.sequence ++ [r.old.toByte * 16 + r.new.toByte, r.cause.kindByte, r.cause.identifier] ++ be32 r.uptime

/-- What READ_HISTORY answers (R94, R171). -/
def readHistoryAnswer (s : State) (skip : Byte) : Answer :=
  let page := (s.history.drop skip.toNat).take 6
  ⟨.ok, [byteOf s.history.length, byteOf page.length,
         flagByte (decide (skip.toNat + page.length < s.history.length))]
    ++ page.flatMap HistoryRecord.bytes⟩

/-- READ_HISTORY (R94). -/
def execReadHistory (p : Port) (s : State) : Out :=
  .next (s.takeCommand p (· == 0x23)
    (fun ps t => t.direct noIdent parseByte (fun skip u => (u, readHistoryAnswer u skip)) ps))

end Sys2Proof.Machine
end

