-- ==== Sys2Proof/Machine/PortReset.lean ====
section
/-! DEFINITION. The PORT RESET frame, before or after a request of its port or while one runs (9.5). -/

namespace Sys2Proof.Machine

/-- The frame result of a PORT RESET frame, from the bytes after its kind byte (R156). Where the second byte is wrong and
the frame is too long as well, which result is recorded is open (log entry 12). -/
def judgePortReset : List Byte → FrameResult
  | [] => .truncated
  | [x] => if x = 0x66 then .resetDone else .badCheck
  | x :: y :: rest =>
    if x = 0x66 then .overlong
    else if Config.longResetFrameIsOverlong (x :: y :: rest) then .overlong else .badCheck

/-- Port `p` leaves the save in flight and the pending save; a pending save left with no requester and no internal cause
is dropped (R123). -/
def RetentionMode.removePort (m : RetentionMode) (p : Port) : RetentionMode :=
  match m with
  | .saving sv w =>
    .saving { sv with requesters := sv.requesters.set p false }
      (match w with
       | some x =>
         let y : PendingSave := { x with requesters := x.requesters.set p false }
         if PortSet.any y.requesters || y.causes.internal then some y else none
       | none => none)
  | .loading => .loading
  | .idle => .idle
  | .auditing => .auditing
  | .held => .held
  | .faulted => .faulted

/-- Every proposal of port `p` is freed (R112). -/
def State.freeProposalsOf (s : State) (p : Port) : State :=
  allFour.foldl (fun t k =>
    match t.proposals[k] with
    | some q => if q.proposer = p then t.freeProposal k else t
    | none => t) s

/-- A whole PORT RESET frame (R157). -/
def State.resetPort (s : State) (p : Port) : State :=
  ({ s with mode := s.mode.removePort p } : State).freeProposalsOf p |>.setNotice p Notice.reset
    |>.setSlot p Slot.reset

/-! ## A PORT RESET while a request of its port runs (R151, R157, R158) -/

/-- The request of a command code at the table, for the commands whose end can follow a PORT RESET of their port with an
effect: a command that reads and an unknown code leave nothing but their answer. SAVE and SET_NOTICE are not among them (log
entry 33). -/
def effectOf (p : Port) (code : Byte) (ps : List Byte) (s : State) : State :=
  match code.toNat with
  | 0x10 => (requestDefine p ps s).1
  | 0x11 => (requestRetire p ps s).1
  | 0x12 => (requestTune p ps s).1
  | 0x13 => (requestClear p ps s).1
  | 0x16 => (requestReport p ps s).1
  | 0x21 => (requestAck p ps s).1
  | 0x30 => (requestSetWindow p ps s).1
  | 0x31 => (requestJoinPair p ps s).1
  | 0x32 => (requestStartWindow p ps s).1
  | 0x33 => (requestStopWindow p ps s).1
  | 0x34 => (requestPresetWindow p ps s).1
  | 0x40 => (requestBindInput p ps s).1
  | 0x50 => (requestFreeze p ps s).1
  | 0x51 => (requestUnfreeze p ps s).1
  | 0x52 => (requestConfirm p ps s).1
  | 0x53 => (requestWithdraw p ps s).1
  | 0x54 => (requestReadProposal p ps s).1
  | 0x61 => (requestSetAutosave p ps s).1
  | 0x63 => (requestAudit p ps s).1
  | _ => s

/-- Whether a request of port `p` can be running when its PORT RESET is taken: the arbiter grants the port now, and its
command is neither a SAVE nor a SET_NOTICE. For these two the operand does nothing: the reset is then the plain one, taken
before the grant, and the order after the grant is the command's own row followed by PORT_RESET. DESIGN CHOICE (log entry
33). -/
def State.resetMeetsRequest (s : State) (p : Port) : Bool := s.canTake p (fun code => code != 0x60 && code != 0x22)

/-- PORT_RESET (R156, R157): judged at the release; a malformed frame writes its result alone. With `during`, the release
falls inside the request of the port's own command: the command has been granted, the PORT RESET is taken, and the request
ends with all its effects and places no answer, the slot being EMPTY (R151, R158, log entry 3). -/
def execPortReset (p : Port) (frame : ResetFrame) (s : State) : Out :=
  .next <| s.takeFrame p (fun u =>
    let r := judgePortReset frame.bytes
    let result (t : State) : State := t.setPort p { t.ports.get p with frameResult := r, reply := zeros frame.bytes.length }
    if r = .resetDone then
      if frame.during && s.resetMeetsRequest p then
        effectOf p u.slot.code u.slot.params ((result (s.grant p)).resetPort p)
      else (result s).resetPort p
    else result s)

end Sys2Proof.Machine
end

