-- ==== Sys2Proof/Machine/Startup.lean ====
section
/-! DEFINITION. Reset, loss of power, the load, and the time base (chapters 1, 2, 4, 6, 7, 9). -/

namespace Sys2Proof.Machine

/-! ## RESET, LOSS_OF_POWER, RST_N_RELEASE -/

/-- The array as an abandoned save leaves it (R130). A cut point the save's step cannot have reached counts as the nearest
one it can (log entry 13). -/
def Save.cutAt (sv : Save) (cut : CutPoint) (x : PerImage Image) : PerImage Image :=
  let written (h : Header) : PerImage Image := x.set sv.target { x.get sv.target with header := h }
  match sv.stage with
  | .erasing =>
    match cut with
    | .beforeErase => x
    | .erasingHeader => written .inPart
    | .headerErased => written .erased
    | .writing => written .erased
    | .cancelErased => written .erased
    | .checkWritten _ => written .erased
  | .marked =>
    match cut with
    | .beforeErase => written .openMarked
    | .erasingHeader => written .openMarked
    | .headerErased => written .openMarked
    | .writing => written .openMarked
    | .cancelErased => written .erased
    | .checkWritten older =>
      if sv.cancelsOlder then
        let y := x.set sv.target sv.image
        let o := sv.target.other
        match older with
        | .notBegun => y
        | .inPart => y.set o { y.get o with header := .inPart }
        | .erased => y.set o { y.get o with header := .erased }
      else written .openMarked

/-- The array after a save in flight, if there is one, is abandoned (R130). -/
def State.cutSave (s : State) (cut : CutPoint) : PerImage Image :=
  match s.mode with
  | .saving sv _ => sv.cutAt cut s.array
  | .loading => s.array
  | .idle => s.array
  | .auditing => s.array
  | .held => s.array
  | .faulted => s.array

/-- Every block in its reset state and the load begun: the queue, the pins and the array stay, both images are judged and
the active one chosen (R4, R40, R58, R64, R84, R113, R116, R138, R163). -/
def State.restart (s : State) (array : PerImage Image) : State :=
  let info : PerImage ImageInfo := ⟨array.a.info, array.b.info⟩
  { State.reset with
    pending := s.pending
    powered := s.powered
    rstAsserted := s.rstAsserted
    pfwAsserted := s.pfwAsserted
    inputs := vec4 (fun i => { EventInput.reset with level := (s.inputs[i]).level })
    array := array
    imageInfo := info
    activeImage := chooseActive info }

/-- RESET (R116, R130, R163): power-on, at which a frame in progress is abandoned, or the assertion of RST_N, which then
stays asserted until its release and whose abandoned frames the release names. Without power the assertion moves the line
alone. -/
def execReset (cause : ResetCause) (cut : CutPoint) (faults : List ArrayFault) (s : State) : Out :=
  .next <|
    match cause with
    | .powerOn selected =>
      let t := State.restart { s with powered := true } (failArray (s.cutSave cut) faults)
      { t with ports := markOpenFrames selected t.ports }
    | .rstN =>
      if s.powered then State.restart { s with rstAsserted := true } (failArray (s.cutSave cut) faults)
      else { s with rstAsserted := true }

/-- LOSS_OF_POWER (R130): working state is lost; the array keeps what the save's step had reached. -/
def execLossOfPower (cut : CutPoint) (s : State) : Out :=
  .next (State.restart { s with powered := false } (s.cutSave cut))

/-- RST_N_RELEASE (R163): the ports take frames from their next select; a frame open at the release is ignored. -/
def execRstNRelease (selected : PortSet) (s : State) : Out :=
  .next <|
    if s.rstAsserted then
      { s with rstAsserted := false, ports := markOpenFrames selected s.ports }
    else s

/-! ## LOAD_END -/

/-- The settings, counters and inputs from a settings section, made to agree with the loaded table (R118). -/
def State.loadSettings (s : State) (x : SettingsRecord) : State :=
  let stays := loadJoined x s.table
  { s with
    frozen := x.frozen == 1
    lifetime := if 100 ≤ x.lifetime.toNat ∧ x.lifetime.toNat ≤ 60000 then x.lifetime else 5000
    autosaveOnWorsen := x.onWorsen == 1
    autosaveInterval := if x.interval.toNat ≤ 1440 then x.interval else 0
    settingsUnsaved := false
    windows := vec8 (loadWindow x stays)
    joined := vec4 stays
    inputs := vec4 (fun i => loadInput (s.inputs[i]) (x.inputs[i]) s.table) }

/-- The no-image values of every setting (R118). -/
def State.defaultSettings (s : State) : State :=
  { s with
    frozen := false
    lifetime := 5000
    autosaveOnWorsen := false
    autosaveInterval := 0
    settingsUnsaved := false
    windows := vec8 (fun _ => Counter.reset)
    joined := vec4 (fun _ => false)
    inputs := vec4 (fun i => { s.inputs[i] with filter := .off, edge := .rise, binding := none }) }

/-- The table and settings from the active image (R117, R118). -/
def State.loadImage (s : State) : State :=
  match s.activeImage with
  | some i =>
    let x := s.array.get i
    let rs := x.used (s.imageInfo.get i).count
    State.loadSettings { s with table := loadEntries 0 rs, droppedAtLoad := droppedEntries 0 rs } x.settings
  | none => State.defaultSettings { s with table := [], droppedAtLoad := 0 }

/-- The verdict of the loaded table: a change from NOMINAL with cause LOAD if it is not NOMINAL, and no save request (R40,
R96). -/
def State.loadVerdict (s : State) : State :=
  let v := deriveVerdict s.table
  if v = .nominal then s else s.changeVerdict v .load

/-- The load up to the hand-over of its record. -/
def State.buildLoad (s : State) : State := { s.loadImage.loadVerdict with loadBuilt := true }

/-- The end of the load: the retention unit's own state, the timer loaded, LOADING left for HELD or IDLE (R118, R134). -/
def State.finishLoad (s : State) : State :=
  State.reloadTimer
    { s with
      failures := 0
      sinceSave := none
      audit := Audit.reset
      loadBuilt := false
      mode := if s.pfwAsserted then .held else .idle }

/-- LOAD_END (R117, R118): while the part is STARTING with power and RST_N released. -/
def execLoadEnd (upTo : LoadPoint) (s : State) : Out :=
  .next <|
    if s.live && s.mode == .loading then
      let t := if s.loadBuilt then s else s.buildLoad
      match upTo with
      | .record => t
      | .ready => t.finishLoad
    else s

/-! ## The time base -/

/-- A tick at one counter: the phase of a RUNNING TICK counter advances (R66). -/
def Counter.tick (c : Counter) : Counter :=
  match c.source with
  | .tick _ => if c.running then { c with phase := c.phase + 1 } else c
  | .event _ => c

/-- A tick at one proposal: an OPEN one's remaining lifetime falls by 1 (R102). -/
def Proposal.tick (q : Proposal) : Proposal :=
  if q.outcome.isNone then { q with remaining := q.remaining - 1 } else q

/-- TICK (R66, R102, R134): tick phases advance, lifetimes and the interval timer count down; what reaches its end is taken
as a step of its own. Nothing counts while the part is STARTING (R64, R113, R134). -/
def execTick (s : State) : Out :=
  .next <|
    if s.ready then
      { s with
        windows := vec8 (fun w => if s.counts w then (s.windows[w]).tick else s.windows[w])
        proposals := vec4 (fun k => (s.proposals[k]).map Proposal.tick)
        intervalTimer := s.intervalTimer - 1 }
    else s

/-- One second more, staying at the top (R137). -/
def secondMore (x : Word32) : Word32 := satAdd32 x 1

/-- UPTIME_SECOND (R37, R137): uptime wraps, time since the last completed save saturates. -/
def execUptimeSecond (s : State) : Out :=
  .next (if s.live then { s with uptime := s.uptime + 1, sinceSave := s.sinceSave.map secondMore } else s)

end Sys2Proof.Machine
end

