-- ==== Sys2Proof/Machine/Dispatch.lean ====
section
/-! DEFINITION. One arm for each command. -/

namespace Sys2Proof.Machine

def exec (i : Instr) (s : State) : Host.Outcome State Fault Refusal :=
  match i with
  | .identify p => Sys2Proof.Machine.execIdentify p s
  | .define p => Sys2Proof.Machine.execDefine p s
  | .retire p => Sys2Proof.Machine.execRetire p s
  | .tune p => Sys2Proof.Machine.execTune p s
  | .clear p => Sys2Proof.Machine.execClear p s
  | .readEntry p => Sys2Proof.Machine.execReadEntry p s
  | .list p => Sys2Proof.Machine.execList p s
  | .report p => Sys2Proof.Machine.execReport p s
  | .readVerdict p => Sys2Proof.Machine.execReadVerdict p s
  | .ack p => Sys2Proof.Machine.execAck p s
  | .setNotice p => Sys2Proof.Machine.execSetNotice p s
  | .readHistory p => Sys2Proof.Machine.execReadHistory p s
  | .setWindow p => Sys2Proof.Machine.execSetWindow p s
  | .joinPair p => Sys2Proof.Machine.execJoinPair p s
  | .startWindow p => Sys2Proof.Machine.execStartWindow p s
  | .stopWindow p => Sys2Proof.Machine.execStopWindow p s
  | .presetWindow p => Sys2Proof.Machine.execPresetWindow p s
  | .readWindow p => Sys2Proof.Machine.execReadWindow p s
  | .bindInput p => Sys2Proof.Machine.execBindInput p s
  | .readInput p => Sys2Proof.Machine.execReadInput p s
  | .freeze p => Sys2Proof.Machine.execFreeze p s
  | .unfreeze p => Sys2Proof.Machine.execUnfreeze p s
  | .confirm p => Sys2Proof.Machine.execConfirm p s
  | .withdraw p => Sys2Proof.Machine.execWithdraw p s
  | .readProposal p => Sys2Proof.Machine.execReadProposal p s
  | .save p => Sys2Proof.Machine.execSave p s
  | .setAutosave p => Sys2Proof.Machine.execSetAutosave p s
  | .readRetention p => Sys2Proof.Machine.execReadRetention p s
  | .audit p => Sys2Proof.Machine.execAudit p s
  | .readAudit p => Sys2Proof.Machine.execReadAudit p s
  | .unknownCommand p => Sys2Proof.Machine.execUnknownCommand p s
  | .commandFrame p bytes => Sys2Proof.Machine.execCommandFrame p bytes s
  | .poll p clocked => Sys2Proof.Machine.execPoll p clocked s
  | .fetch p clocked => Sys2Proof.Machine.execFetch p clocked s
  | .portReset p frame => Sys2Proof.Machine.execPortReset p frame s
  | .badKindFrame p kind clocked => Sys2Proof.Machine.execBadKindFrame p kind clocked s
  | .reset cause cut faults => Sys2Proof.Machine.execReset cause cut faults s
  | .loadEnd upTo => Sys2Proof.Machine.execLoadEnd upTo s
  | .pfwAssertion => Sys2Proof.Machine.execPfwAssertion s
  | .pfwRelease => Sys2Proof.Machine.execPfwRelease s
  | .tick => Sys2Proof.Machine.execTick s
  | .uptimeSecond => Sys2Proof.Machine.execUptimeSecond s
  | .proposalExpiry k => Sys2Proof.Machine.execProposalExpiry k s
  | .intervalTimerExpiry => Sys2Proof.Machine.execIntervalTimerExpiry s
  | .eventInputEdge n soon => Sys2Proof.Machine.execEventInputEdge n soon s
  | .eventInputReturn n => Sys2Proof.Machine.execEventInputReturn n s
  | .filterWidthElapsed n => Sys2Proof.Machine.execFilterWidthElapsed n s
  | .pulseFold n => Sys2Proof.Machine.execPulseFold n s
  | .windowTickDecrement w => Sys2Proof.Machine.execWindowTickDecrement w s
  | .windowEventDecrement n => Sys2Proof.Machine.execWindowEventDecrement n s
  | .windowClose w => Sys2Proof.Machine.execWindowClose w s
  | .earlyLook w => Sys2Proof.Machine.execEarlyLook w s
  | .saveEnd readBackOk => Sys2Proof.Machine.execSaveEnd readBackOk s
  | .auditSegmentEnd faults => Sys2Proof.Machine.execAuditSegmentEnd faults s
  | .lossOfPower cut => Sys2Proof.Machine.execLossOfPower cut s
  | .rstNRelease selected => Sys2Proof.Machine.execRstNRelease selected s
  | .openMarkingWritten => Sys2Proof.Machine.execOpenMarkingWritten s

end Sys2Proof.Machine
end

