-- ==== Sys2Proof/Safety.lean ====
section
/-! DEFINITION. The vocabulary of the statements: when a command is granted, what an answered command leaves, and the
invariants that every step keeps. -/

namespace Sys2Proof.Machine

/-! ## A granted command and its answer -/

/-- Port `p` holds the command of this code with these parameters and the arbiter grants it next (R159, R160). -/
structure State.Granted (s : State) (p : Port) (code : Byte) (params : List Byte) : Prop where
  ready : s.ready = true
  next : s.nextGrant = some p
  code : (s.slot p).code = code
  params : (s.slot p).params = params

/-- The slot of a command that was granted and answered: DONE with the answer, tag and code kept (R160). -/
def Slot.answered (x : Slot) (a : Answer) : Slot := { x with state := .done, response := some a }

/-- `s` with `p` the last granted port and its slot DONE with this answer (R159, R160); nothing else moves. -/
def State.answered (s : State) (p : Port) (a : Answer) : State :=
  { s with
    lastGranted := some p
    ports := s.ports.set p { s.ports.get p with slot := (s.slot p).answered a } }

/-- Port `p`'s slot moved from `s` to `t` by a grant and an answer at most: tag, code and parameters of the slot, the frame
result and the returned bytes stay, and so do the other ports' units. -/
def onlySlotState (p : Port) (s t : State) : Prop :=
  (∀ q, q ≠ p → t.ports.get q = s.ports.get q) ∧
  t.ports.get p =
    { s.ports.get p with
      slot := { s.slot p with state := (t.slot p).state, response := (t.slot p).response } }

/-! ## Codes, parameter blocks and identifier fields, written from chapter 10 -/

/-- The port and the command code of a command of 10.2. -/
def portAndCode : Instr → Option (Port × Byte)
  | .identify p => some (p, 0x01)
  | .define p => some (p, 0x10)
  | .retire p => some (p, 0x11)
  | .tune p => some (p, 0x12)
  | .clear p => some (p, 0x13)
  | .readEntry p => some (p, 0x14)
  | .list p => some (p, 0x15)
  | .report p => some (p, 0x16)
  | .readVerdict p => some (p, 0x20)
  | .ack p => some (p, 0x21)
  | .setNotice p => some (p, 0x22)
  | .readHistory p => some (p, 0x23)
  | .setWindow p => some (p, 0x30)
  | .joinPair p => some (p, 0x31)
  | .startWindow p => some (p, 0x32)
  | .stopWindow p => some (p, 0x33)
  | .presetWindow p => some (p, 0x34)
  | .readWindow p => some (p, 0x35)
  | .bindInput p => some (p, 0x40)
  | .readInput p => some (p, 0x41)
  | .freeze p => some (p, 0x50)
  | .unfreeze p => some (p, 0x51)
  | .confirm p => some (p, 0x52)
  | .withdraw p => some (p, 0x53)
  | .readProposal p => some (p, 0x54)
  | .save p => some (p, 0x60)
  | .setAutosave p => some (p, 0x61)
  | .readRetention p => some (p, 0x62)
  | .audit p => some (p, 0x63)
  | .readAudit p => some (p, 0x64)
  | _ => none

/-- The port of a frame of 9.1; a BAD_KIND frame has a kind byte that 9.1 does not list, or none (R148). -/
def framePort : Instr → Option Port
  | .commandFrame p _ => some p
  | .poll p _ => some p
  | .fetch p _ => some p
  | .portReset p _ => some p
  | .badKindFrame p kind _ => if kind ∈ [some (0xC3 : Byte), some 0xA5, some 0x5A, some 0x99] then none else some p
  | _ => none

/-- The structural code of a structural command code (6.2). -/
def structuralCode (code : Byte) : Option StructuralCode :=
  [StructuralCode.define, .retire, .tune, .clear, .setWindow, .joinPair, .startWindow, .stopWindow, .presetWindow,
   .bindInput, .setAutosave, .unfreeze].find? (fun k => k.toByte == code)

/-- Byte `n` of a parameter block as a number. -/
def field8 (n : Nat) (ps : List Byte) : Nat := (ps.getD n 0).toNat

/-- Bytes `n` and `n + 1` of a parameter block as a number, the first one the more significant (chapter 10). -/
def field16 (n : Nat) (ps : List Byte) : Nat := field8 n ps * 256 + field8 (n + 1) ps

/-- A number lies between two bounds. -/
def within (lo x hi : Nat) : Bool := decide (lo ≤ x) && decide (x ≤ hi)

/-- A trip level is 0 to 250, or 255 (R31, R167). -/
def tripField (x : Nat) : Bool := decide (x ≤ 250) || x == 255

/-- The range check of a command: the block's length and its fields, by the command's own rule (R6, R167). -/
def blockOk (code : Byte) (ps : List Byte) : Bool :=
  let one (lo hi : Nat) : Bool := ps.length == 1 && within lo (field8 0 ps) hi
  match code.toNat with
  | 0x10 => -- R7
    ps.length == 11 && within 1 (field8 0 ps) 254 && within 1 (field8 2 ps) 2 && within 0 (field8 3 ps) 7
      && tripField (field8 4 ps) && field16 5 ps != 0
      && ((field8 1 ps == 1 && field16 7 ps == 0 && field8 9 ps == 0 && field8 10 ps == 0)
        || (field8 1 ps == 2 && within 0 (field8 9 ps) 7 && within 0 (field8 10 ps) 15)
        || (field8 1 ps == 3 && field8 9 ps == 0 && field8 10 ps == 0))
  | 0x12 => -- R13
    ps.length == 9 && within 1 (field8 0 ps) 254 && within 1 (field8 1 ps) 2 && within 0 (field8 2 ps) 7
      && tripField (field8 3 ps) && field16 4 ps != 0 && within 0 (field8 8 ps) 15
  | 0x11 => one 1 254 -- R10
  | 0x13 => one 1 254 -- R16
  | 0x14 => one 1 254 -- R17
  | 0x15 => one 0 254 -- R18
  | 0x20 => one 0 254 -- R41
  | 0x16 => within 1 (field8 0 ps) 8 && ps.length == 1 + 3 * field8 0 ps -- R44
  | 0x22 => one 0 2 -- R90
  | 0x23 => one 0 255 -- R94
  | 0x30 => -- R74
    ps.length == 7 && within 0 (field8 0 ps) 7 && field16 3 ps != 0
      && ((field8 1 ps == 0 && within 0 (field8 2 ps) 7) || (field8 1 ps == 1 && within 0 (field8 2 ps) 3))
  | 0x31 => ps.length == 2 && within 0 (field8 0 ps) 3 && within 0 (field8 1 ps) 1 -- R76
  | 0x32 => one 0 7 -- R79
  | 0x33 => one 0 7 -- R79
  | 0x34 => one 0 7 -- R79
  | 0x35 => one 0 7 -- R82
  | 0x40 => -- R59
    ps.length == 4 && within 0 (field8 0 ps) 3 && within 0 (field8 1 ps) 254 && within 0 (field8 2 ps) 3
      && within 0 (field8 3 ps) 1
  | 0x41 => one 0 3 -- R62
  | 0x50 => ps.length == 2 && (field16 0 ps == 0 || within 100 (field16 0 ps) 60000) -- R98
  | 0x61 => ps.length == 3 && within 0 (field8 0 ps) 1 && within 0 (field16 1 ps) 1440 -- R133
  | 0x63 => one 1 2 -- R139
  | 0x21 => ps.length == 2 -- R88
  | 0x52 => ps.length == 2 -- R103
  | 0x53 => ps.length == 2 -- R106
  | 0x54 => ps.length == 2 -- R107
  | _ => ps.length == 0 -- R109, R135, R137, R147, R164

/-- What a refusal carries: the identifier field as the command carried it, 0 where the block is too short (R168). -/
def identifier (s : State) (code : Byte) (ps : List Byte) : List Byte :=
  match code.toNat with
  | 0x10 => [ps.getD 0 0]
  | 0x11 => [ps.getD 0 0]
  | 0x12 => [ps.getD 0 0]
  | 0x13 => [ps.getD 0 0]
  | 0x14 => [ps.getD 0 0]
  | 0x40 => [ps.getD 1 0]
  | 0x30 => [ps.getD 0 0]
  | 0x31 => [ps.getD 0 0]
  | 0x32 => [ps.getD 0 0]
  | 0x33 => [ps.getD 0 0]
  | 0x34 => [ps.getD 0 0]
  | 0x35 => [ps.getD 0 0]
  | 0x41 => [ps.getD 0 0]
  | 0x16 => [255, 0]
  | 0x63 => [s.audit.status.toByte, BitVec.ofNat 8 s.audit.pointer]
  | _ => []

/-! ## Entries as the commands write them -/

/-- A LEVEL entry. -/
def KindPart.isLevel : KindPart → Bool
  | .level _ _ => true
  | .count _ => false
  | .rate .. => false

/-- The entry of this id replaced by `f` of it, its unsaved mark set and withdrawn from the note of a save in flight (R19,
R124). -/
def State.written (s : State) (id : Byte) (f : Entry → Entry) : State :=
  { s with
    table := s.table.map (fun e => if e.id = id then { f e with unsaved := true } else e)
    mode := s.mode.withdrawIds (fun j => j == id) }

/-- An entry under a new grade: the low mark takes it in (R30), the ever-tripped mark is set if it is tripped (R33). -/
def Entry.regraded (e : Entry) (g : Nat) : Entry :=
  { e with grade := g, lowMark := min e.lowMark g, everTripped := e.everTripped || trippedAt e.trip g }

/-- An entry just as DEFINE and CLEAR leave it, tripped or not at grade 200 (R8, R9, R16). -/
def Entry.justDefined (e : Entry) (k : KindPart) : Entry :=
  { e with grade := 200, lowMark := 200, everTripped := trippedAt e.trip 200, kind := k }

/-- The kind, allowance, window and settle count of a DEFINE, with the kind part they stand for (R7, R8). -/
inductive DefinesKind : Byte → Word16 → Byte → Byte → KindPart → Prop where
  | count : DefinesKind 1 0 0 0 (.count 0)
  | rate (a : Word16) (w : Fin 8) (n : Nat) (h : n ≤ 15) :
      DefinesKind 2 a (BitVec.ofNat 8 w.val) (BitVec.ofNat 8 n) (.rate a w n 0 0 none 0)
  | level (a : Word16) : DefinesKind 3 a 0 0 (.level a none)

/-- The kind part may be defined now: a RATE entry does not name the high counter of a joined pair (R7, R83). -/
def State.windowFree (s : State) : KindPart → Prop
  | .rate _ w _ _ _ _ _ => ¬ (w.val % 2 = 1 ∧ s.joined[pairOf w] = true)
  | .count _ => True
  | .level _ _ => True

/-- The kind check of a TUNE against the entry's kind part, with the kind part it writes (R13, R14). -/
inductive TunesKind : KindPart → Word16 → Nat → KindPart → Prop where
  | count (total : Word32) : TunesKind (.count total) 0 0 (.count total)
  | rate (a a' : Word16) (w : Fin 8) (n n' : Nat) (total tally : Word32) (last : Option Word32) (seen : Nat) :
      TunesKind (.rate a w n total tally last seen) a' n' (.rate a' w n' total tally last seen)
  | level (a a' : Word16) (reading : Option Word16) : TunesKind (.level a reading) a' 0 (.level a' reading)

/-- The grade a TUNE gives under its new step and kind part (R14). -/
def retunedGrade (step : Word16) : KindPart → Nat
  | .count total => countGrade total step
  | .rate a _ n _ _ (some last) seen => if n ≤ seen then rateGrade last a step else 200
  | .rate _ _ _ _ _ none _ => 200
  | .level a (some r) => levelGrade r a step
  | .level _ none => 200

/-- The counting fields of a kind part just after DEFINE (1.1, R16). -/
def freshKind : KindPart → KindPart
  | .count _ => .count 0
  | .rate a w n _ _ _ _ => .rate a w n 0 0 none 0
  | .level a _ => .level a none

/-- A 32-bit sum that stays at the top (R47, R48). -/
def cappedSum (x : Word32) (n : Nat) : Word32 :=
  if x.toNat + n ≤ 4294967295 then x + BitVec.ofNat 32 n else 4294967295

/-- One REPORT item passes its validation for port `p` (R45). -/
def itemPasses (s : State) (p : Port) (item : Byte × Word16) : Prop :=
  ∃ e, findEntry item.1 s.table = some e ∧ e.reporters.get p = true ∧ (e.kind.isLevel = true ∨ item.2 ≠ 0)

/-- One REPORT item fails, with the status of its first failing check (R45). -/
inductive ItemFails (s : State) (p : Port) (item : Byte × Word16) : Status → Prop where
  | absent (h : findEntry item.1 s.table = none) : ItemFails s p item .noEntry
  | notPermitted (e : Entry) (h : findEntry item.1 s.table = some e) (hp : e.reporters.get p = false) :
      ItemFails s p item .notPermitted
  | badValue (e : Entry) (h : findEntry item.1 s.table = some e) (hp : e.reporters.get p = true)
      (hk : e.kind.isLevel = false) (hv : item.2 = 0) : ItemFails s p item .badParam

/-- The parameter block of a REPORT of these items (R44, 10.2). -/
def reportBlock (items : List (Byte × Word16)) : List Byte :=
  BitVec.ofNat 8 items.length :: items.flatMap (fun i => i.1 :: be16 i.2)

/-! ## What a load keeps -/

/-- A record can stand in the table after a kept record of id `last`: the entry check passes, the id is 1 to 254 and above
`last`, every field lies in its range for the kind, grade and low mark keep the bounds of R26 and R30 (R115, R117). That a
field the kind lacks must be 0 is the model's reading (log entry 16). -/
def EntryRecord.StandsAfter (last : Byte) (r : EntryRecord) : Prop :=
  sum16 (r.words ++ [r.check]) = 0xFFFF ∧ 1 ≤ r.id.toNat ∧ r.id.toNat ≤ 254 ∧ last.toNat < r.id.toNat ∧
  (r.cls = 1 ∨ r.cls = 2) ∧ r.reporters.toNat ≤ 7 ∧ (r.trip.toNat ≤ 250 ∨ r.trip = 255) ∧ r.step ≠ 0 ∧
  r.everTripped.toNat ≤ 1 ∧ 1 ≤ r.lowMark.toNat ∧ r.lowMark.toNat ≤ r.grade.toNat ∧ r.lowMark.toNat ≤ 200 ∧
  ((r.kind = 1 ∧ r.grade.toNat ≤ 200 ∧ r.allowance = 0 ∧ r.window = 0 ∧ r.settle = 0 ∧ r.lastPresent = 0 ∧
      r.lastSample = 0 ∧ r.windowsSeen = 0 ∧ r.readingPresent = 0 ∧ r.reading = 0) ∨
    (r.kind = 2 ∧ r.grade.toNat ≤ 250 ∧ (r.windowsSeen.toNat < r.settle.toNat → r.grade = 200) ∧
      r.window.toNat ≤ 7 ∧ r.settle.toNat ≤ 15 ∧ r.lastPresent.toNat ≤ 1 ∧ r.readingPresent = 0 ∧ r.reading = 0) ∨
    (r.kind = 3 ∧ r.grade.toNat ≤ 200 ∧ r.window = 0 ∧ r.settle = 0 ∧ r.total = 0 ∧ r.lastPresent = 0 ∧
      r.lastSample = 0 ∧ r.windowsSeen = 0 ∧ r.readingPresent.toNat ≤ 1))

/-- The state with the table of the active image and its settings, or with the no-image values (R117, R118). -/
def State.asLoaded (s : State) : State :=
  match s.activeImage with
  | some i =>
    let count := (s.imageInfo.get i).count
    let kept := loadEntries 0 ((s.array.get i).used count)
    State.loadSettings { s with table := kept, droppedAtLoad := count - kept.length } (s.array.get i).settings
  | none =>
    { s with
      table := []
      droppedAtLoad := 0
      frozen := false
      lifetime := 5000
      autosaveOnWorsen := false
      autosaveInterval := 0
      settingsUnsaved := false
      joined := Vector.replicate 4 false
      windows := Vector.replicate 8
        { reload := 60, compare := 0, source := .tick .ms1000, running := false, count := 60, phase := 0, closes := 0,
          waiting := [] }
      inputs := s.inputs.map (fun e => { e with binding := none, filter := .off, edge := .rise }) }

/-- The end of a load whose table is built: the retention unit's own state and the part READY (R118, R134, R138). -/
def State.asStarted (s : State) : State :=
  { s with
    failures := 0
    sinceSave := none
    audit := ⟨.neverRun, 0, 0, 0, 0, 0, 0, 0, []⟩
    loadBuilt := false
    intervalTimer := s.autosaveInterval.toNat * 60000
    mode := if s.pfwAsserted then .held else .idle }

/-! ## Proposals and pulses as the statements speak of them -/

/-- A slot in use other than `k` holds this number (R101). -/
def State.heldElsewhere (s : State) (k : Fin 4) (n : Word16) : Prop :=
  ∃ (j : Fin 4) (q : Proposal), j ≠ k ∧ s.proposals[j] = some q ∧ q.number = n

/-- The slot of a new proposal: the lowest FREE one, else the one first in the closing order (R100). -/
def State.newSlot (s : State) (k : Fin 4) : Prop :=
  (s.proposals[k] = none ∧ ∀ j : Fin 4, j < k → s.proposals[j] ≠ none) ∨
  ((∀ j : Fin 4, s.proposals[j] ≠ none) ∧ s.closingOrder.head? = some k)

/-- The settings-unsaved mark set, and withdrawn from the note of a save in flight (R20, R124). -/
def State.settingsWritten (s : State) : State := { s with settingsUnsaved := true, mode := s.mode.withdrawSettings }

/-- A counter just preset to this count (R69, R75, R80). -/
def Counter.presetTo (c : Counter) (count : Nat) : Counter := { c with count := count, phase := 0, waiting := [] }

/-- The tallies of the RATE entries bound to `w` are 0, no other field moves (R77, R80). -/
def talliesZeroed (w : Fin 8) (t : List Entry) : List Entry :=
  t.map (fun e =>
    match e.kind with
    | .rate a w' n total _ last seen => if w' = w then { e with kind := .rate a w' n total 0 last seen } else e
    | .count _ => e
    | .level _ _ => e)

/-! ## The table (R3, R26, R30, R31) -/

/-- The bounds on an entry's fields: id (R3), trip level (R31), step (1.1), grade and low mark (R30, R26). -/
def Entry.Ok (e : Entry) : Prop :=
  (1 ≤ e.id.toNat ∧ e.id.toNat ≤ 254) ∧ (e.trip ≤ 250 ∨ e.trip = 255) ∧ e.step ≠ 0 ∧
  (1 ≤ e.lowMark ∧ e.lowMark ≤ e.grade ∧ e.lowMark ≤ 200) ∧
  match e.kind with
  | .count _ => e.grade ≤ 200
  | .level _ _ => e.grade ≤ 200
  | .rate _ _ settle _ _ _ seen => e.grade ≤ 250 ∧ settle ≤ 15 ∧ seen ≤ 255 ∧ (seen < settle → e.grade = 200)

/-- Ids strictly ascending (R3). -/
def ascending (t : List Entry) : Prop := (t.map (fun e => e.id.toNat)).Pairwise (· < ·)

/-- At most 48 entries in strictly ascending id order, each within its bounds (R3, R26, R30); what a load or a save could
bring in holds at most 48 as well. -/
def State.TableInv (s : State) : Prop :=
  s.table.length ≤ Config.entries ∧ ascending s.table ∧ (∀ e ∈ s.table, e.Ok) ∧
  (∀ i, s.activeImage = some i → (s.imageInfo.get i).count ≤ Config.entries) ∧
  (∀ sv w, s.mode = .saving sv w → sv.image.positions.length ≤ Config.entries)

/-! ## Bindings and joined pairs (R61, R83) -/

/-- Every binding names an entry of kind COUNT or RATE (R61). -/
def State.BindingInv (s : State) : Prop :=
  ∀ i : Fin 4, ∀ id, (s.inputs[i]).binding = some id → ∃ e ∈ s.table, e.id = id ∧ e.kind.isLevel = false

/-- No RATE entry is bound to the high counter of a joined pair (R83). -/
def State.JoinInv (s : State) : Prop :=
  ∀ k : Fin 4, s.joined[k] = true → ∀ e ∈ s.table, e.boundTo (highOf k) = false

/-! ## The verdict and the history (R34, R40, R93) -/

/-- The load has not yet built the table. -/
def State.unbuilt (s : State) : Prop := s.mode = .loading ∧ s.loadBuilt = false

/-- Each record is one sequence above the next older one and begins at the verdict that one ended with; each is a change
(R37, R38, R93). -/
def chained : List HistoryRecord → Prop
  | [] => True
  | [r] => r.old ≠ r.new
  | r :: r' :: rs => r.old ≠ r.new ∧ r.sequence = r'.sequence + 1 ∧ r.old = r'.new ∧ chained (r' :: rs)

/-- The newest record tells the verdict, the sequence and verdict since; with an empty ring no change has been made since
reset (R37, R40, R93). -/
def State.newestTells (s : State) : Prop :=
  match s.history with
  | [] => s.verdict = .nominal ∧ s.verdictSeq = 0 ∧ s.verdictSince = 0
  | r :: _ => s.verdict = r.new ∧ s.verdictSeq = r.sequence ∧ s.verdictSince = r.uptime

/-- The verdict is the one the table gives, NOMINAL while the load has not built it (R34, R40); the ring holds at most
twelve records, a chain that ends at the verdict (R93). -/
def State.VerdictInv (s : State) : Prop :=
  (s.unbuilt → s.verdict = .nominal ∧ s.history = []) ∧ (¬ s.unbuilt → s.verdict = deriveVerdict s.table) ∧
  s.history.length ≤ Config.historyRecords ∧ s.newestTells ∧ chained s.history

/-! ## Counters (R63, R65, R67) -/

/-- Reloads are not 0, a counter that counts stands between 1 and its effective reload (R63, R65), and an EVENT counter's
phase is 0 (R67). -/
def State.CounterInv (s : State) : Prop :=
  ∀ w : Fin 8, (s.windows[w]).reload ≠ 0 ∧
    (s.counts w = true → 1 ≤ (s.windows[w]).count ∧ (s.windows[w]).count ≤ s.effectiveReload w) ∧
    (∀ i, (s.windows[w]).source = .event i → (s.windows[w]).phase = 0)

/-! ## Proposals (R99, R100, R101, R108, R110) -/

/-- Slot `k` is CLOSED. -/
def State.isClosed (s : State) (k : Fin 4) : Prop :=
  ∃ (q : Proposal) (o : ProposalOutcome), s.proposals[k] = some q ∧ q.outcome = some o

/-- Numbers of the slots in use are not 0 and differ, an OPEN proposal stands on a frozen table alone, the closing order
names the CLOSED slots and the made order the slots in use, each once; every slot is FREE until the part is READY (R113). -/
def State.ProposalInv (s : State) : Prop :=
  s.nextNumber ≠ 0 ∧
  (∀ (k : Fin 4) (q : Proposal), s.proposals[k] = some q → q.number ≠ 0) ∧
  (∀ (j k : Fin 4) (q r : Proposal), s.proposals[j] = some q → s.proposals[k] = some r → q.number = r.number → j = k) ∧
  (∀ k : Fin 4, s.isOpen k = true → s.frozen = true) ∧
  (s.closingOrder.Nodup ∧ ∀ k : Fin 4, k ∈ s.closingOrder ↔ s.isClosed k) ∧
  (s.madeOrder.Nodup ∧ ∀ k : Fin 4, k ∈ s.madeOrder ↔ (s.proposals[k]).isSome = true) ∧
  (s.mode = .loading → ∀ k : Fin 4, s.proposals[k] = none)

/-! ## The audit sweep (R138, R141) -/

/-- The status is RUNNING exactly while the unit is AUDITING; the pointer is 0 before the first sweep, below 8 while a sweep
runs or is aborted, and 8 when it is done; the kept ids are as many as the positions judged other than DAMAGED, and a
segment holds at most six positions (R138, R140, R141). -/
def State.AuditInv (s : State) : Prop :=
  (s.audit.status = .running ↔ s.mode = .auditing) ∧
  (match s.audit.status with
   | .neverRun => s.audit = Audit.reset
   | .allDone => s.audit.pointer = 8
   | .running => s.audit.pointer < 8 ∧ s.audit.fresh = 0
   | .abortedBySave => s.audit.pointer < 8 ∧ s.audit.fresh = 0
   | .abortedByChange => s.audit.pointer < 8 ∧ s.audit.fresh = 0) ∧
  s.audit.matched + s.audit.differs + s.audit.missing + s.audit.damaged ≤ 6 * s.audit.pointer ∧
  s.audit.kept.length = s.audit.matched + s.audit.differs + s.audit.missing

/-! ## The retention unit (R119 to R129) -/

/-- The active image is VALID and is never the one being written; three failures and FAULTED are one; HELD stands only under
an asserted PFW_N, IDLE and AUDITING only under a released one; a part
without power or under RST_N is LOADING (R116, R121, R125, R128, R129, R131, R132). -/
def State.RetentionInv (s : State) : Prop :=
  (∀ i, s.activeImage = some i → (s.imageInfo.get i).state = .valid) ∧
  (∀ sv w, s.mode = .saving sv w →
    s.activeImage ≠ some sv.target ∧ (s.imageInfo.get sv.target).state = (if sv.stage = .erasing then .blank else .invalid)) ∧
  s.failures ≤ 3 ∧ (s.failures = 3 ↔ s.mode = .faulted) ∧
  (s.mode = .held → s.pfwAsserted = true) ∧ (s.mode = .idle ∨ s.mode = .auditing → s.pfwAsserted = false) ∧
  (s.live = false → s.mode = .loading)

/-! ## Slots (R151, R161) -/

/-- The retention unit holds port `p` as a requester, of the save in flight or of the pending save. -/
def State.holdsPort (s : State) (p : Port) : Prop :=
  ∃ sv w, s.mode = .saving sv w ∧ (sv.requesters.get p = true ∨ ∃ x, w = some x ∧ x.requesters.get p = true)

/-- A slot holds a response exactly while it is DONE, and is RUNNING exactly while the retention unit holds its port as a
requester, of one save alone (R123, R151, R154, R161). -/
def State.SlotInv (s : State) : Prop :=
  ∀ p, ((s.slot p).response.isSome = true ↔ (s.slot p).state = .done) ∧
    ((s.slot p).state = .running ↔ s.holdsPort p) ∧
    ((s.slot p).state = .empty → (s.slot p).code = 0 ∧ (s.slot p).params = []) ∧
    (∀ sv x, s.mode = .saving sv (some x) → ¬ (sv.requesters.get p = true ∧ x.requesters.get p = true))

end Sys2Proof.Machine
end

