-- ==== Sys2Proof/Certificates/Slice0/Obligations.lean ====
section
/-! DEFINITION. The statements for the provers. -/

open Sys2Proof Sys2Proof.Machine

/-! ## The machine as a whole -/

/-- A step is the command at the front of the queue run on the state with the queue's rest; an empty queue idles, which is
the model's choice (log entry 2). -/
def Obligations.StepRunsTheFrontCommand : Prop :=
  (∀ (c : Instr) (rest : List Instr) (s : State), s.pending = c :: rest → step s = exec c { s with pending := rest }) ∧
  (∀ s : State, s.pending = [] → step s = .next s)

/-- Every command answers a next state on every state, and none touches the queue. That a command the part cannot take
still answers a next state, and that a command leaves the queue to the step, are the model's own choices (log entries 1 and
2, DESIGN CHOICE). -/
def Obligations.EveryCommandAnswersANextState : Prop :=
  ∀ (c : Instr) (s : State), ∃ t : State, exec c s = .next t ∧ t.pending = s.pending

/-- What the rules state of the part just after reset: R40, R84, R97, R113, R116, R138, R151, R152, R159. -/
def Obligations.ResetStateHoldsTheStatedValues : Prop :=
  (∀ p : Port, State.reset.slot p = ⟨.empty, 0, 0, [], none⟩ ∧ (State.reset.ports.get p).frameResult = .none ∧
    State.reset.notices.get p = ⟨.worsen, .clear⟩ ∧ State.reset.alertLow p = false) ∧
  State.reset.lastGranted = none ∧ State.reset.mode = .loading ∧
  State.reset.verdict = .nominal ∧ State.reset.verdictSeq = 0 ∧ State.reset.verdictSince = 0 ∧ State.reset.uptime = 0 ∧
  State.reset.history = [] ∧
  (∀ k : Fin 4, State.reset.proposals[k] = none) ∧ State.reset.closingOrder = [] ∧ State.reset.nextNumber = 1 ∧
  State.reset.audit = ⟨.neverRun, 0, 0, 0, 0, 0, 0, 0, []⟩ ∧
  (∀ i : Fin 4, (State.reset.inputs[i]).accepted = 0 ∧ (State.reset.inputs[i]).unbound = 0 ∧
    (State.reset.inputs[i]).folds = 0 ∧ (State.reset.inputs[i]).judging = none) ∧
  (∀ w : Fin 8, (State.reset.windows[w]).closes = 0 ∧ (State.reset.windows[w]).waiting = [])

/-- Every invariant of Safety.lean holds at reset. -/
def Obligations.ResetStateMeetsTheInvariants : Prop :=
  State.reset.TableInv ∧ State.reset.BindingInv ∧ State.reset.JoinInv ∧ State.reset.VerdictInv ∧
  State.reset.CounterInv ∧ State.reset.ProposalInv ∧ State.reset.AuditInv ∧ State.reset.RetentionInv ∧
  State.reset.SlotInv

/-! ## Invariants that every step keeps -/

/-- R3, R26, R30: the table stays ordered, bounded and within its fields' ranges. -/
def Obligations.StepKeepsTheTableOrderedAndBounded : Prop :=
  ∀ s t : State, s.TableInv → step s = .next t → t.TableInv

/-- R61: every binding names an existing COUNT or RATE entry, over a table whose ids ascend (R3). R83: no RATE entry is bound
to the high counter of a joined pair. -/
def Obligations.StepKeepsBindingsAndJoinedPairs : Prop :=
  (∀ s t : State, s.TableInv → s.BindingInv → step s = .next t → t.BindingInv) ∧
  (∀ s t : State, s.JoinInv → step s = .next t → t.JoinInv)

/-- R34, R36, R37, R40, R93: the verdict is the one the table gives, and the ring is the chain of its changes. -/
def Obligations.StepKeepsVerdictAndHistoryInAgreement : Prop :=
  ∀ s t : State, s.VerdictInv → step s = .next t → t.VerdictInv

/-- R63, R65, R67: counts stay between 1 and the effective reload. -/
def Obligations.StepKeepsCountsWithinTheirReload : Prop :=
  ∀ s t : State, s.CounterInv → step s = .next t → t.CounterInv

/-- R100, R101, R108, R110, R113: numbers differ, OPEN proposals stand on a frozen table, the orders name the slots. -/
def Obligations.StepKeepsProposalSlotsConsistent : Prop :=
  ∀ s t : State, s.ProposalInv → step s = .next t → t.ProposalInv

/-- R138, R140, R141: status, pointer and counts of the sweep fit together. -/
def Obligations.StepKeepsTheAuditSweepConsistent : Prop :=
  ∀ s t : State, s.AuditInv → step s = .next t → t.AuditInv

/-- R121, R125 to R129, R131, R132: the active image is VALID and not being written; FAULTED is three failures; HELD stands
under an asserted PFW_N. That the unit of a part without power or under RST_N is LOADING is the model's inference (log entry
21, DEDUCED), not one of these rules. -/
def Obligations.StepKeepsTheRetentionUnitConsistent : Prop :=
  ∀ s t : State, s.RetentionInv → step s = .next t → t.RetentionInv

/-- R151, R161: a response stands in a DONE slot alone, and a slot is RUNNING exactly while its port is a requester. -/
def Obligations.StepKeepsSlotsInTheirStates : Prop :=
  ∀ s t : State, s.SlotInv → step s = .next t → t.SlotInv

/-! ## Saving and loading -/

/-- R114, R115, R117: the image a save writes is VALID, and a load from it drops nothing and gives the table back, tallies 0
and unsaved marks clear. The word layout the check runs over is the model's (log entry 6). -/
def Obligations.SaveThenLoadRestoresTheTable : Prop :=
  ∀ (s : State) (g : Word32) (c : Causes), s.TableInv →
    (imageOf s g c).judge = .valid ∧ (imageOf s g c).info = ⟨.valid, g, c, s.table.length⟩ ∧
    droppedEntries 0 ((imageOf s g c).used s.table.length) = 0 ∧
    loadEntries 0 ((imageOf s g c).used s.table.length) =
      s.table.map (fun e => { e.zeroTally with unsaved := false })

/-- R61, R64, R97, R118: the settings a save writes are the settings a load gives back beside the same table. -/
def Obligations.SaveThenLoadRestoresTheSettings : Prop :=
  ∀ s u : State, s.TableInv → s.BindingInv → s.JoinInv → s.CounterInv →
    100 ≤ s.lifetime.toNat → s.lifetime.toNat ≤ 60000 → s.autosaveInterval.toNat ≤ 1440 → u.table = s.table →
    let t := u.loadSettings (settingsRecordOf s)
    t.frozen = s.frozen ∧ t.lifetime = s.lifetime ∧ t.autosaveOnWorsen = s.autosaveOnWorsen ∧
    t.autosaveInterval = s.autosaveInterval ∧ t.settingsUnsaved = false ∧ t.joined = s.joined ∧
    (∀ w : Fin 8, (t.windows[w]).reload = (s.windows[w]).reload ∧ (t.windows[w]).compare = (s.windows[w]).compare ∧
      (t.windows[w]).source = (s.windows[w]).source ∧
      (s.counts w = true → (t.windows[w]).running = (s.windows[w]).running ∧
        (t.windows[w]).count = s.effectiveReload w) ∧
      (t.windows[w]).phase = 0 ∧ (t.windows[w]).waiting = []) ∧
    (∀ i : Fin 4, (t.inputs[i]).binding = (s.inputs[i]).binding ∧ (t.inputs[i]).filter = (s.inputs[i]).filter ∧
      (t.inputs[i]).edge = (s.inputs[i]).edge)

/-! ## Commands that read -/

/-- R164. -/
def Obligations.IdentifyAnswersThePart : Prop :=
  ∀ (s : State) (p : Port) (ps : List Byte), s.Granted p 0x01 ps →
    exec (.identify p) s = .next (s.answered p
      (if ps = [] then
        ⟨.ok, [0x4E, 0x46, 0xC0, 0x48, 1, 48, 8, 4, 3, 4, 12, (match p with | .a => 1 | .b => 2 | .c => 3)]⟩
       else ⟨.badParam, []⟩))

/-- R17, R170: the record of an entry that is present, NO_ENTRY for one that is not. -/
def Obligations.ReadEntryAnswersTheRecord : Prop :=
  (∀ (s : State) (p : Port) (id : Byte), s.Granted p 0x14 [id] → 1 ≤ id.toNat → id.toNat ≤ 254 →
    exec (.readEntry p) s = .next (s.answered p
      (match findEntry id s.table with
       | some e => ⟨.ok, e.record⟩
       | none => ⟨.noEntry, [id]⟩))) ∧
  (∀ e : Entry, e.record =
    [e.id, (match e.kind with | .count _ => 1 | .rate .. => 2 | .level _ _ => 3),
     (match e.cls with | .service => 1 | .urgent => 2),
     (if e.reporters.a then 1 else 0) + (if e.reporters.b then 2 else 0) + (if e.reporters.c then 4 else 0),
     BitVec.ofNat 8 e.trip] ++ be16 e.step ++
    [BitVec.ofNat 8 e.grade, BitVec.ofNat 8 e.lowMark,
     (if e.tripped then 1 else 0) + (if e.everTripped then 2 else 0) + (if e.unsaved then 4 else 0)] ++
    (match e.kind with
     | .count total => [0, 0, 0, 1] ++ be32 total ++ [0, 0, 0, 0]
     | .rate a w n total tally last seen =>
       [1] ++ be16 a ++ [1, BitVec.ofNat 8 w.val, 1, BitVec.ofNat 8 n, 1] ++ be32 total ++ [1] ++ be32 tally ++
         (match last with | some x => 1 :: be32 x | none => [0]) ++ [1, BitVec.ofNat 8 seen, 0]
     | .level a r =>
       [1] ++ be16 a ++ [0, 0, 0, 0, 0, 0] ++ (match r with | some x => 1 :: be16 x | none => [0])))

/-- R18, R41, R94, R171: the pages of LIST, of the tripped ids of READ_VERDICT and of the ring, newest record first.
10.3, R92: the codes of the cause kinds and their identifiers. -/
def Obligations.ListVerdictAndHistoryAnswerTheirPages : Prop :=
  ((∀ (s : State) (p : Port) (after : Byte), s.Granted p 0x15 [after] → after.toNat ≤ 254 →
     let ids := (s.table.map (fun e => e.id)).filter (fun id => decide (after.toNat < id.toNat))
     exec (.list p) s = .next (s.answered p
       ⟨.ok, [BitVec.ofNat 8 (min 16 ids.length)] ++ ids.take 16 ++ [if 16 < ids.length then 1 else 0]⟩)) ∧
   (∀ (s : State) (p : Port) (after : Byte), s.Granted p 0x20 [after] → after.toNat ≤ 254 →
     let tripped := s.table.filter (fun e => e.tripped)
     let ids := (tripped.map (fun e => e.id)).filter (fun id => decide (after.toNat < id.toNat))
     exec (.readVerdict p) s = .next (s.answered p
       ⟨.ok, [(match s.verdict with | .nominal => (0 : Byte) | .service => 1 | .urgent => 2)] ++ be16 s.verdictSeq ++
         be32 s.verdictSince ++ [BitVec.ofNat 8 tripped.length, BitVec.ofNat 8 (min 16 ids.length)] ++ ids.take 16 ++
         [if 16 < ids.length then 1 else 0, BitVec.ofNat 8 (s.table.filter (fun e => e.unsaved)).length]⟩))) ∧
  (∀ (s : State) (p : Port) (skip : Byte), s.Granted p 0x23 [skip] →
     let page := (s.history.drop skip.toNat).take 6
     exec (.readHistory p) s = .next (s.answered p
       ⟨.ok, [BitVec.ofNat 8 s.history.length, BitVec.ofNat 8 page.length,
              if skip.toNat + page.length < s.history.length then 1 else 0] ++
         page.flatMap (fun r => be16 r.sequence ++
           [(match r.old with | .nominal => (0 : Byte) | .service => 0x10 | .urgent => 0x20) +
              (match r.new with | .nominal => (0 : Byte) | .service => 1 | .urgent => 2),
            r.cause.kindByte, r.cause.identifier] ++ be32 r.uptime)⟩)) ∧
  (∀ (p : Port) (i : Fin 4) (w : Fin 8) (id : Byte),
     let causes : List Cause :=
       [.load, .report p, .pulse i, .close w, .early w, .define id, .retire id, .tune id, .clear id]
     causes.map Cause.kindByte = [0, 1, 2, 3, 4, 5, 6, 7, 8] ∧
     causes.map Cause.identifier =
       [0, (match p with | .a => 1 | .b => 2 | .c => 3), BitVec.ofNat 8 i.val, BitVec.ofNat 8 w.val,
        BitVec.ofNat 8 w.val, id, id, id, id])

/-- R62, R82: the records of READ_INPUT and READ_WINDOW. 10.3: the codes of filters, edges, sources and selectors. R63: the
ticks of a divider, and the entries bound to a counter. -/
def Obligations.ReadInputAndReadWindowAnswerTheirRecords : Prop :=
  (∀ (s : State) (p : Port) (i : Fin 4), s.Granted p 0x41 [BitVec.ofNat 8 i.val] →
    exec (.readInput p) s = .next (s.answered p
      ⟨.ok, [BitVec.ofNat 8 i.val, (s.inputs[i]).binding.getD 0, (s.inputs[i]).filter.toByte,
             (s.inputs[i]).edge.toByte] ++ be32 (s.inputs[i]).accepted ++ be32 (s.inputs[i]).unbound⟩)) ∧
  (∀ (s : State) (p : Port) (w : Fin 8), s.Granted p 0x35 [BitVec.ofNat 8 w.val] →
    let joined := s.joined[pairOf w]
    let shown := if joined then lowOf (pairOf w) else w
    let lo := s.windows[lowOf (pairOf w)]
    let hi := s.windows[highOf (pairOf w)]
    exec (.readWindow p) s = .next (s.answered p
      ⟨.ok, [BitVec.ofNat 8 w.val, if joined then 1 else 0, (s.windows[w]).source.toByte,
             (s.windows[w]).source.selector] ++ be16 (s.windows[w]).reload ++ be16 (s.windows[w]).compare ++
        (if joined then be16 hi.reload ++ be16 lo.reload else [0, 0] ++ be16 (s.windows[w]).reload) ++
        (if joined then be16 hi.compare ++ be16 lo.compare else [0, 0] ++ be16 (s.windows[w]).compare) ++
        [if (s.windows[shown]).running then 1 else 0] ++ be32 (BitVec.ofNat 32 (s.windows[shown]).count) ++
        be32 (s.windows[w]).closes ++
        [BitVec.ofNat 8 (s.table.filter (fun e => e.boundTo w)).length]⟩)) ∧
  ([Filter.off, .us1, .us10, .us100].map Filter.toByte = [0, 1, 2, 3] ∧ [Edge.rise, .fall].map Edge.toByte = [0, 1] ∧
   (∀ (d : Divider) (i : Fin 4), (Source.tick d).toByte = 0 ∧ (Source.event i).toByte = 1 ∧
     (Source.event i).selector = BitVec.ofNat 8 i.val) ∧
   [Divider.ms1, .ms2, .ms5, .ms10, .ms50, .ms100, .ms500, .ms1000].map (fun d => (Source.tick d).selector) =
     [0, 1, 2, 3, 4, 5, 6, 7] ∧
   [Divider.ms1, .ms2, .ms5, .ms10, .ms50, .ms100, .ms500, .ms1000].map Divider.ticks =
     [1, 2, 5, 10, 50, 100, 500, 1000]) ∧
  (∀ (e : Entry) (w : Fin 8), e.boundTo w = true ↔ ∃ a n total tally last seen,
    e.kind = .rate a w n total tally last seen)

/-- R137, R172: the 34 bytes of READ_RETENTION. 10.3: the codes of image states and retention states, and the bits of a
save cause set. -/
def Obligations.ReadRetentionAnswersTheFixedRecord : Prop :=
  (∀ (s : State) (p : Port), s.Granted p 0x62 [] →
     let a := s.imageInfo.a
     let b := s.imageInfo.b
     let waiting : Option PendingSave := match s.mode with | .saving _ w => w | _ => none
     let left : Word32 := if s.autosaveInterval = 0 then 0 else BitVec.ofNat 32 (s.intervalTimer / 1000)
     ∃ bytes : List Byte, bytes.length = 34 ∧ exec (.readRetention p) s = .next (s.answered p ⟨.ok, bytes⟩) ∧
       bytes =
         [a.state.toByte, b.state.toByte, (match s.activeImage with | none => 0 | some .a => 1 | some .b => 2),
          (if a.state = .valid then 1 else 0) + (if b.state = .valid then 2 else 0) +
            (if waiting.isSome then 4 else 0) + (if s.autosaveInterval = 0 then 0 else 8) +
            (if s.sinceSave.isSome then 16 else 0)] ++
         be32 (if a.state = .valid then a.generation else 0) ++ be32 (if b.state = .valid then b.generation else 0) ++
         [(match s.activeImage with
           | none => 0
           | some .a => a.causes.toByte
           | some .b => b.causes.toByte),
          BitVec.ofNat 8 s.droppedAtLoad, s.mode.toByte, BitVec.ofNat 8 s.failures,
          (match waiting with | some x => x.causes.toByte | none => 0),
          if s.pfwAsserted then 1 else 0, if s.autosaveOnWorsen then 1 else 0] ++
         be16 s.autosaveInterval ++ be32 left ++ be32 (s.sinceSave.getD 0) ++
         [if s.settingsUnsaved then 1 else 0, 0, 0, 0, 0]) ∧
  ([ImageState.blank, .valid, .invalid].map ImageState.toByte = [0, 1, 2] ∧
   (∀ sv w, [RetentionMode.loading, .idle, .saving sv w, .auditing, .held, .faulted].map RetentionMode.toByte =
     [0, 1, 2, 3, 4, 5]) ∧
   (∀ c : Causes, c.toByte.toNat < 32 ∧ c.toByte.getLsbD 0 = c.port ∧ c.toByte.getLsbD 1 = c.worsen ∧
     c.toByte.getLsbD 2 = c.interval ∧ c.toByte.getLsbD 3 = c.powerFail ∧ c.toByte.getLsbD 4 = c.repair) ∧
   [Causes.ofPort, .ofWorsen, .ofInterval, .ofPowerFail, .ofRepair].map Causes.toByte = [1, 2, 4, 8, 16])

/-- R147. -/
def Obligations.ReadAuditAnswersTheSweep : Prop :=
  ∀ (s : State) (p : Port) (ps : List Byte), s.Granted p 0x64 ps →
    exec (.readAudit p) s = .next (s.answered p
      (if ps = [] then
        ⟨.ok, [(match s.audit.status with
                | .neverRun => 0 | .running => 1 | .allDone => 2 | .abortedBySave => 3 | .abortedByChange => 4),
               BitVec.ofNat 8 s.audit.pointer, BitVec.ofNat 8 s.audit.matched, BitVec.ofNat 8 s.audit.differs,
               BitVec.ofNat 8 s.audit.missing, BitVec.ofNat 8 s.audit.damaged, BitVec.ofNat 8 s.audit.fresh]⟩
       else ⟨.badParam, []⟩))

/-! ## Refusals -/

/-- R6, R22, R167, R168: a parameter block of the wrong length or with a field out of range is answered BAD_PARAM with the
identifier field, on a frozen and an unfrozen table, and nothing else moves. R160: a code that 10.2 does not list is answered
UNKNOWN_COMMAND with no result, whatever its parameters. -/
def Obligations.RefusedBlocksAndUnknownCodes : Prop :=
  (∀ (c : Instr) (p : Port) (code : Byte) (ps : List Byte) (s : State), portAndCode c = some (p, code) →
     s.Granted p code ps → blockOk code ps = false →
     exec c s = .next (s.answered p ⟨.badParam, identifier s code ps⟩)) ∧
  (∀ (s : State) (p : Port) (code : Byte) (ps : List Byte), s.Granted p code ps →
     (∀ c : Instr, portAndCode c ≠ some (p, code)) →
     exec (.unknownCommand p) s = .next (s.answered p ⟨.unknownCommand, []⟩))

/-- R7, R10, R13, R16, R21, R22: the state checks of the table commands on an unfrozen table, in their order; a refusal
moves the slot alone. -/
def Obligations.TableCommandsRefuseInOrder : Prop :=
  ∀ (s : State) (p : Port) (code : Byte) (ps : List Byte), s.Granted p code ps → s.frozen = false →
    blockOk code ps = true →
    let id := ps.getD 0 0
    (code = 0x10 → findEntry id s.table ≠ none →
      exec (.define p) s = .next (s.answered p ⟨.idInUse, [id]⟩)) ∧
    (code = 0x10 → findEntry id s.table = none → 48 ≤ s.table.length →
      exec (.define p) s = .next (s.answered p ⟨.tableFull, [id]⟩)) ∧
    (∀ w : Fin 8, code = 0x10 → findEntry id s.table = none → s.table.length < 48 → field8 1 ps = 2 →
      field8 9 ps = w.val → w.val % 2 = 1 → s.joined[pairOf w] = true →
      exec (.define p) s = .next (s.answered p ⟨.badWindow, [id]⟩)) ∧
    (code = 0x11 → findEntry id s.table = none →
      exec (.retire p) s = .next (s.answered p ⟨.noEntry, [id]⟩)) ∧
    (code = 0x13 → findEntry id s.table = none →
      exec (.clear p) s = .next (s.answered p ⟨.noEntry, [id]⟩)) ∧
    (code = 0x12 → findEntry id s.table = none →
      exec (.tune p) s = .next (s.answered p ⟨.noEntry, [id]⟩)) ∧
    (∀ e : Entry, code = 0x12 → findEntry id s.table = some e →
      (∀ k, ¬ TunesKind e.kind (BitVec.ofNat 16 (field16 6 ps)) (field8 8 ps) k) →
      exec (.tune p) s = .next (s.answered p ⟨.badParam, [id]⟩))

/-! ## The table commands -/

/-- R7, R8, R9: an applied DEFINE. R146: what a definition change does to a sweep: AUDITING becomes IDLE with
ABORTED_BY_CHANGE, pointer and counts kept; in any other state nothing. R124, R136: what the withdrawal of ids and of the
settings mark does to the note of a save in flight: those ids, or that mark, leave it and nothing else moves; without a
save in flight there is none. -/
def Obligations.DefineCreatesTheEntry : Prop :=
  (∀ (s : State) (p : Port) (id kind cls set trip s1 s0 a1 a0 w n : Byte) (k : KindPart),
    s.Granted p 0x10 [id, kind, cls, set, trip, s1, s0, a1, a0, w, n] → s.frozen = false →
    1 ≤ id.toNat → id.toNat ≤ 254 → (cls = 1 ∨ cls = 2) → set.toNat ≤ 7 → (trip.toNat ≤ 250 ∨ trip = 255) →
    s1 ++ s0 ≠ (0 : Word16) → DefinesKind kind (a1 ++ a0) w n k →
    findEntry id s.table = none → s.table.length < 48 → s.windowFree k →
    let e : Entry := Entry.justDefined
      { id := id, cls := if cls = 2 then .urgent else .service,
        reporters := ⟨set.getLsbD 0, set.getLsbD 1, set.getLsbD 2⟩, trip := trip.toNat, step := s1 ++ s0,
        grade := 200, lowMark := 200, everTripped := false, unsaved := true, kind := k } k
    let made : State := { s with table := insertEntry e s.table, mode := s.mode.withdrawIds (fun j => j == id) }
    exec (.define p) s = .next ((made.definitionChange.recompute (.define id)).answered p ⟨.ok, [id]⟩)) ∧
  (∀ s : State,
    (s.mode = .auditing →
      s.definitionChange = { s with mode := .idle, audit := { s.audit with status := .abortedByChange } }) ∧
    (s.mode ≠ .auditing → s.definitionChange = s)) ∧
  (∀ (sv : Save) (w : Option PendingSave) (gone : Byte → Bool),
    (RetentionMode.saving sv w).withdrawIds gone =
      .saving { sv with note := ⟨sv.note.ids.filter (fun id => !gone id), sv.note.settings⟩ } w ∧
    (RetentionMode.saving sv w).withdrawSettings = .saving { sv with note := ⟨sv.note.ids, false⟩ } w) ∧
  (∀ (m : RetentionMode) (gone : Byte → Bool), (∀ sv w, m ≠ .saving sv w) →
    m.withdrawIds gone = m ∧ m.withdrawSettings = m)

/-- R10, R124: an applied RETIRE. -/
def Obligations.RetireRemovesTheEntry : Prop :=
  ∀ (s : State) (p : Port) (id : Byte), s.Granted p 0x11 [id] → s.frozen = false →
    1 ≤ id.toNat → id.toNat ≤ 254 → findEntry id s.table ≠ none →
    ∃ gone : State,
      exec (.retire p) s = .next ((gone.definitionChange.recompute (.retire id)).answered p ⟨.ok, [id]⟩) ∧
      gone = { s with table := s.table.filter (fun e => e.id != id), inputs := gone.inputs, settingsUnsaved := true,
                      mode := (s.mode.withdrawIds (fun j => j == id)).withdrawSettings } ∧
      ∀ i : Fin 4, gone.inputs[i] =
        if (s.inputs[i]).binding = some id then { s.inputs[i] with binding := none } else s.inputs[i]

/-- R13, R14, R15: an applied TUNE. -/
def Obligations.TuneRewritesTheEntry : Prop :=
  ∀ (s : State) (p : Port) (id cls set trip s1 s0 a1 a0 n : Byte) (e : Entry) (k : KindPart),
    s.Granted p 0x12 [id, cls, set, trip, s1, s0, a1, a0, n] → s.frozen = false →
    blockOk 0x12 [id, cls, set, trip, s1, s0, a1, a0, n] = true →
    findEntry id s.table = some e → TunesKind e.kind (a1 ++ a0) n.toNat k →
    let tuned := s.written id (fun x => Entry.regraded
      { x with cls := if cls = 2 then .urgent else .service,
               reporters := ⟨set.getLsbD 0, set.getLsbD 1, set.getLsbD 2⟩, trip := trip.toNat, step := s1 ++ s0,
               kind := k } (retunedGrade (s1 ++ s0) k))
    exec (.tune p) s = .next ((tuned.definitionChange.recompute (.tune id)).answered p ⟨.ok, [id]⟩)

/-- R16: an applied CLEAR. -/
def Obligations.ClearRefreshesTheEntry : Prop :=
  ∀ (s : State) (p : Port) (id : Byte), s.Granted p 0x13 [id] → s.frozen = false →
    1 ≤ id.toNat → id.toNat ≤ 254 → findEntry id s.table ≠ none →
    exec (.clear p) s = .next
      (((s.written id (fun x => x.justDefined (freshKind x.kind))).recompute (.clear id)).answered p ⟨.ok, [id]⟩)

/-! ## Reports -/

/-- R44 to R51: a REPORT whose items all pass is applied in item order as one request; another is refused with its first
failing item's status, index and id, and applies nothing. -/
def Obligations.ReportsApplyWholeOrNotAtAll : Prop :=
  (∀ (s : State) (p : Port) (items : List (Byte × Word16)), s.Granted p 0x16 (reportBlock items) →
     1 ≤ items.length → items.length ≤ 8 → (∀ item ∈ items, itemPasses s p item) →
     let applied := items.foldl (fun t item => t.written item.1 (Entry.observe item.2)) s
     exec (.report p) s = .next
       ((applied.recompute (.report p)).answered p ⟨.ok, [BitVec.ofNat 8 items.length]⟩)) ∧
  (∀ (s : State) (p : Port) (before after : List (Byte × Word16)) (item : Byte × Word16) (status : Status),
     s.Granted p 0x16 (reportBlock (before ++ item :: after)) → (before ++ item :: after).length ≤ 8 →
     (∀ x ∈ before, itemPasses s p x) → ItemFails s p item status →
     exec (.report p) s = .next (s.answered p ⟨status, [BitVec.ofNat 8 before.length, item.1]⟩))

/-- R47, R48, R49: what one item does to an entry of each kind. -/
def Obligations.ObservationsMoveEntriesByKind : Prop :=
  ∀ (e : Entry) (v : Word16),
    (∀ total, e.kind = .count total →
      e.observe v = Entry.regraded { e with kind := .count (cappedSum total v.toNat) }
        (countGrade (cappedSum total v.toNat) e.step)) ∧
    (∀ a w n total tally last seen, e.kind = .rate a w n total tally last seen →
      e.observe v =
        { e with kind := .rate a w n (cappedSum total v.toNat) (cappedSum tally v.toNat) last seen }) ∧
    (∀ a reading, e.kind = .level a reading →
      e.observe v = Entry.regraded { e with kind := .level a (some v) } (levelGrade v a e.step))

/-! ## Grades, trips and the verdict -/

/-- R23, R24, R25, R28: the grade formulas, in whole numbers. R31, R34: when an entry is tripped, and the verdict the tripped
entries give. -/
def Obligations.GradesTripsAndVerdictFollowTheirRules : Prop :=
  (∀ (x : Word32) (r a step : Word16), step ≠ 0 →
     ((countGrade x step : Nat) : Int) = max 1 (200 - (x.toNat : Int) / step.toNat) ∧
     ((rateGrade x a step : Nat) : Int) =
       (if (x.toNat : Int) ≤ a.toNat then min 250 (200 + ((a.toNat : Int) - x.toNat))
        else max 1 (200 - ((x.toNat : Int) - a.toNat) / step.toNat)) ∧
     ((levelGrade r a step : Nat) : Int) =
       (if r.toInt ≤ a.toInt then 200 else max 1 (200 - (r.toInt - a.toInt) / step.toNat))) ∧
  ((∀ e : Entry, e.tripped = true ↔ e.trip = 255 ∨ (1 ≤ e.trip ∧ e.trip ≤ 250 ∧ e.grade ≤ e.trip)) ∧
   (∀ t : List Entry,
     (deriveVerdict t = .urgent ↔ ∃ e ∈ t, e.tripped = true ∧ e.cls = .urgent) ∧
     (deriveVerdict t = .service ↔ (∃ e ∈ t, e.tripped = true) ∧ ∀ e ∈ t, e.tripped = true → e.cls ≠ .urgent) ∧
     (deriveVerdict t = .nominal ↔ ∀ e ∈ t, e.tripped = false)))

/-- R35 to R39, R86, R93: the recomputation at the end of a request changes nothing, or makes one change with its record,
its marks and, on a worsening under autosave, a WORSEN save request. -/
def Obligations.RecomputationMakesOneChangeAtMost : Prop :=
  ∀ (s : State) (cause : Cause),
    let v := deriveVerdict s.table
    let worse : Prop := (s.verdict = .nominal ∧ v ≠ .nominal) ∨ (s.verdict = .service ∧ v = .urgent)
    let changed : State :=
      { s with
        verdict := v
        verdictSeq := s.verdictSeq + 1
        verdictSince := s.uptime
        notices := s.notices.map (fun n =>
          ⟨n.mask, if n.mask = .any ∨ (n.mask = .worsen ∧ worse) then .pending else n.state⟩)
        history := (⟨s.verdictSeq + 1, s.verdict, v, cause, s.uptime⟩ :: s.history).take 12 }
    (v = s.verdict → s.recompute cause = s) ∧
    (v ≠ s.verdict → ¬ (worse ∧ s.autosaveOnWorsen = true) → s.recompute cause = changed) ∧
    (worse → s.autosaveOnWorsen = true → s.recompute cause = changed.requestSave .ofWorsen)

/-! ## Notices -/

/-- R88: ACK is judged against the port's notice and the current sequence; the alert line follows the notice state. -/
def Obligations.AckIsJudgedAgainstTheCurrentSequence : Prop :=
  (∀ (s : State) (p : Port) (ps : List Byte), s.Granted p 0x21 ps →
    exec (.ack p) s = .next
      (match ps with
       | [hi, lo] =>
         if (s.notices.get p).state = .clear then s.answered p ⟨.nothingPending, be16 s.verdictSeq⟩
         else if hi ++ lo = s.verdictSeq then
           ({ s with notices := s.notices.set p { s.notices.get p with state := .clear } } : State).answered p
             ⟨.ok, be16 s.verdictSeq⟩
         else s.answered p ⟨.stale, be16 s.verdictSeq⟩
       | _ => s.answered p ⟨.badParam, []⟩)) ∧
  (∀ (s : State) (p : Port), s.alertLow p = true ↔ (s.notices.get p).state = .pending)

/-- R90: SET_NOTICE writes the mask of its port, and leaves the notice state. -/
def Obligations.SetNoticeWritesTheMaskOfItsPort : Prop :=
  ∀ (s : State) (p : Port) (ps : List Byte), s.Granted p 0x22 ps →
    let writes (m : NoticeMask) (code : Byte) : State :=
      ({ s with notices := s.notices.set p ⟨m, (s.notices.get p).state⟩ } : State).answered p ⟨.ok, [code]⟩
    exec (.setNotice p) s = .next
      (if ps = [0] then writes .none 0
       else if ps = [1] then writes .worsen 1
       else if ps = [2] then writes .any 2
       else s.answered p ⟨.badParam, []⟩)

/-! ## Event inputs -/

/-- R53, R54, R58: edges, returns and filter widths at one input. A leading edge less than 5 µs after the last acceptance is
ignored; `soon` and the pin level are the model's own view of the pin (log entry 20). Every counter that counts, runs and
takes its source from the input gets one count of the pulse, kept for its own decrement; a count whose counter has been
stopped or set otherwise since is dropped, which is the model's reading (log entry 19, DEDUCED). -/
def Obligations.EdgesBeginAndEndPulses : Prop :=
  ∀ (s : State) (i : Fin 4),
    let e := s.inputs[i]
    let lead := match e.edge with | .rise => true | .fall => false
    let pulses : Vector Nat 8 := Vector.ofFn (fun w => e.windowPulses[w] +
      if s.counts w = true ∧ (s.windows[w]).running = true ∧ (s.windows[w]).source = .event i then 1 else 0)
    let accept (level : Bool) : State :=
      { s with
        inputs := s.inputs.set i
          { e with level := level, accepted := e.accepted + 1, judging := none, acceptedOnce := true,
                   folds := e.folds + 1, windowPulses := pulses } }
    (∀ soon : Bool, s.ready = true → e.level = !lead → e.judging = none → (soon && e.acceptedOnce) = false →
      (e.filter = .off → exec (.eventInputEdge i soon) s = .next (accept lead)) ∧
      (e.filter ≠ .off → exec (.eventInputEdge i soon) s =
        .next { s with inputs := s.inputs.set i { e with level := lead, judging := some ⟨e.filter, e.edge⟩ } })) ∧
    (∀ soon : Bool, e.level = !lead → (s.ready = false ∨ (e.judging = none ∧ soon = true ∧ e.acceptedOnce = true)) →
      exec (.eventInputEdge i soon) s = .next { s with inputs := s.inputs.set i { e with level := lead } }) ∧
    (∀ j : Judged, s.ready = true → e.judging = some j →
      exec (.filterWidthElapsed i) s = .next (accept e.level)) ∧
    (∀ j : Judged, e.judging = some j → e.level = (match j.edge with | .rise => true | .fall => false) →
      exec (.eventInputReturn i) s =
        .next { s with inputs := s.inputs.set i { e with level := !e.level, judging := none } }) ∧
    (e.judging = none → e.level = lead →
      exec (.eventInputReturn i) s = .next { s with inputs := s.inputs.set i { e with level := !lead } }) ∧
    (∀ w : Fin 8, s.ready = true → 0 < e.windowPulses[w] →
      ¬ (s.counts w = true ∧ (s.windows[w]).running = true ∧ (s.windows[w]).source = .event i) →
      exec (.windowEventDecrement ⟨i, w⟩) s = .next
        { s with inputs := s.inputs.set i { e with windowPulses := e.windowPulses.set w (e.windowPulses[w] - 1) } })

/-- R55, R56, R57: a waiting fold is taken under the binding the table holds now. -/
def Obligations.FoldsCountUnderTheBindingOfTheMoment : Prop :=
  ∀ (s : State) (i : Fin 4), s.ready = true → 0 < (s.inputs[i]).folds → ascending s.table →
    let e := s.inputs[i]
    let taken : State := { s with inputs := s.inputs.set i { e with folds := e.folds - 1 } }
    (∀ (id : Byte) (x : Entry) (total : Word32), e.binding = some id → findEntry id s.table = some x →
      x.kind = .count total →
      exec (.pulseFold i) s = .next ((taken.written id (Entry.observe 1)).recompute (.pulse i))) ∧
    (∀ (id : Byte) (x : Entry) (a : Word16) (w : Fin 8) (n : Nat) (total tally : Word32) (last : Option Word32)
        (seen : Nat), e.binding = some id → findEntry id s.table = some x →
      x.kind = .rate a w n total tally last seen →
      (total ≠ 0xFFFFFFFF →
        exec (.pulseFold i) s = .next ((taken.written id (Entry.observe 1)).recompute (.pulse i))) ∧
      (total = 0xFFFFFFFF →
        exec (.pulseFold i) s = .next
          (({ taken with table := s.table.map (fun y =>
              if y.id = id then { y with kind := .rate a w n total (cappedSum tally 1) last seen } else y) } :
            State).recompute (.pulse i)))) ∧
    (e.binding = none →
      exec (.pulseFold i) s =
        .next { s with inputs := s.inputs.set i { e with folds := e.folds - 1, unbound := e.unbound + 1 } })

/-! ## Window counters -/

/-- R65 to R68: what one decrement does, at a TICK counter whose phase has reached its divider and at a counter to which an
accepted pulse is handed (R54), by the effective reload and compare. A phase that stands at its divider until a step of its
own counts it down is the model's choice (log entry 9, DESIGN CHOICE); that a pulse handed to several counters is kept as a
count for each of them, counted by an event of its own that leaves the others, is its reading (log entry 19, DEDUCED). -/
def Obligations.DecrementsCountDownOrClose : Prop :=
  (∀ (c : Counter) (reload compare : Nat),
    (2 ≤ c.count → c.decrement reload compare =
      { c with count := c.count - 1, waiting := c.waiting ++ (if c.count - 1 = compare then [.early] else []) }) ∧
    (c.count = 1 → c.decrement reload compare = { c with count := reload, waiting := c.waiting ++ [.close] })) ∧
  (∀ (s : State) (w : Fin 8) (d : Divider), s.ready = true → s.counts w = true → (s.windows[w]).running = true →
    (s.windows[w]).source = .tick d → (s.windows[w]).phase = d.ticks →
    exec (.windowTickDecrement w) s = .next
      { s with
        windows := s.windows.set w
          (Counter.decrement { s.windows[w] with phase := 0 } (s.effectiveReload w) (s.effectiveCompare w)) }) ∧
  (∀ (s : State) (i : Fin 4) (w : Fin 8), s.ready = true → s.counts w = true → (s.windows[w]).running = true →
    (s.windows[w]).source = .event i → 0 < (s.inputs[i]).windowPulses[w] →
    let e := s.inputs[i]
    exec (.windowEventDecrement ⟨i, w⟩) s = .next
      { s with
        inputs := s.inputs.set i { e with windowPulses := e.windowPulses.set w (e.windowPulses[w] - 1) }
        windows := s.windows.set w ((s.windows[w]).decrement (s.effectiveReload w) (s.effectiveCompare w)) }) ∧
  (∀ (s : State) (i : Fin 4) (v w : Fin 8), s.ready = true → v ≠ w →
    (∀ x, x = v ∨ x = w → s.counts x = true ∧ (s.windows[x]).running = true ∧ (s.windows[x]).source = .event i ∧
      0 < (s.inputs[i]).windowPulses[x]) →
    ∃ t u : State, exec (.windowEventDecrement ⟨i, v⟩) s = .next t ∧ exec (.windowEventDecrement ⟨i, w⟩) t = .next u ∧
      (u.windows[v]) = (s.windows[v]).decrement (s.effectiveReload v) (s.effectiveCompare v) ∧
      (u.windows[w]) = (s.windows[w]).decrement (s.effectiveReload w) (s.effectiveCompare w) ∧
      (u.inputs[i]).windowPulses[v] = (s.inputs[i]).windowPulses[v] - 1 ∧
      (u.inputs[i]).windowPulses[w] = (s.inputs[i]).windowPulses[w] - 1)

/-- R27, R69 to R72: a waiting close or early look is taken. R19, R124: a written entry is marked unsaved, and its id
leaves the note of a save in flight. R27: a grade above 200 is not disturbed by a lower provisional grade also above 200;
that this holds where R72 names no exception is the model's reading (log entry 31, DEDUCED). -/
def Obligations.ClosesAndEarlyLooksGradeTheBoundEntries : Prop :=
  (∀ (s : State) (w : Fin 8) (rest : List WindowRequest), s.ready = true →
    (s.windows[w]).waiting = .close :: rest →
    exec (.windowClose w) s = .next
      ((State.writeEntries
        { s with
          windows := s.windows.set w
            { s.windows[w] with waiting := rest, closes := (s.windows[w]).closes + 1 } }
        (fun e => if e.boundTo w = true then some e.takeSample else none)).recompute (.close w))) ∧
  (∀ (s : State) (w : Fin 8) (rest : List WindowRequest), s.ready = true →
    (s.windows[w]).waiting = .early :: rest →
    exec (.earlyLook w) s = .next
      ((State.writeEntries { s with windows := s.windows.set w { s.windows[w] with waiting := rest } }
        (fun e => if e.boundTo w = true then e.lookEarly else none)).recompute (.early w))) ∧
  (∀ (e : Entry) (a : Word16) (w : Fin 8) (n : Nat) (total tally : Word32) (last : Option Word32) (seen : Nat),
    e.kind = .rate a w n total tally last seen →
    (n ≤ min 255 (seen + 1) →
      e.takeSample = Entry.regraded { e with kind := .rate a w n total 0 (some tally) (min 255 (seen + 1)) }
        (rateGrade tally a e.step)) ∧
    (min 255 (seen + 1) < n →
      e.takeSample = { e with kind := .rate a w n total 0 (some tally) (min 255 (seen + 1)),
                              everTripped := e.everTripped || e.tripped }) ∧
    (n ≤ seen → rateGrade tally a e.step < e.grade → rateGrade tally a e.step ≤ 200 →
      e.lookEarly = some (e.regraded (rateGrade tally a e.step))) ∧
    (seen < n ∨ e.grade ≤ rateGrade tally a e.step ∨ 200 < rateGrade tally a e.step → e.lookEarly = none)) ∧
  (∀ (s : State) (f : Entry → Option Entry),
    s.writeEntries f =
      { s with
        table := s.table.map (fun e => match f e with | some x => { x with unsaved := true } | none => e)
        mode := s.mode.withdrawIds (fun id => s.table.any (fun e => e.id == id && (f e).isSome)) })

/-- R74, R75: an applied SET_WINDOW on a counter that counts alone and on either counter of a joined pair, and WINDOW_RUNNING.
R79, R80: START_WINDOW, STOP_WINDOW and PRESET_WINDOW act on the counter, or on the low counter of its joined pair. -/
def Obligations.WindowsAreSetStartedStoppedAndPreset : Prop :=
  (∀ (s : State) (p : Port) (w : Fin 8) (source selector r1 r0 c1 c0 : Byte) (src : Source),
     s.Granted p 0x30 [BitVec.ofNat 8 w.val, source, selector, r1, r0, c1, c0] → s.frozen = false →
     src.toByte = source → src.selector = selector → r1 ++ r0 ≠ (0 : Word16) →
     let c := s.windows[w]
     let lo := lowOf (pairOf w)
     let hi := highOf (pairOf w)
     let joined := s.joined[pairOf w]
     let stopped := c.running = false ∧ (joined = true → (s.windows[lo]).running = false)
     let done (x : Vector Counter 8) : State :=
       (State.settingsWritten { s with windows := x }).answered p ⟨.ok, [BitVec.ofNat 8 w.val]⟩
     (stopped → joined = false →
       exec (.setWindow p) s = .next (done (s.windows.set w
         (Counter.presetTo { c with source := src, reload := r1 ++ r0, compare := c1 ++ c0 }
           (r1 ++ r0 : Word16).toNat)))) ∧
     (stopped → joined = true → w = lo →
       exec (.setWindow p) s = .next (done (s.windows.set w
         (Counter.presetTo { c with source := src, reload := r1 ++ r0, compare := c1 ++ c0 }
           ((s.windows[hi]).reload.toNat * 65536 + (r1 ++ r0 : Word16).toNat))))) ∧
     (stopped → joined = true → w = hi →
       exec (.setWindow p) s = .next (done
         ((s.windows.set w { c with reload := r1 ++ r0, compare := c1 ++ c0 }).set lo
           (Counter.presetTo (s.windows[lo])
             ((r1 ++ r0 : Word16).toNat * 65536 + (s.windows[lo]).reload.toNat))))) ∧
     (¬ stopped → exec (.setWindow p) s = .next (s.answered p ⟨.windowRunning, [BitVec.ofNat 8 w.val]⟩))) ∧
  (∀ (s : State) (p : Port) (w : Fin 8) (code : Byte), s.Granted p code [BitVec.ofNat 8 w.val] → s.frozen = false →
     let base := if s.joined[pairOf w] then lowOf (pairOf w) else w
     let c := s.windows[base]
     let count :=
       if s.joined[pairOf w] then
         (s.windows[highOf (pairOf w)]).reload.toNat * 65536 + (s.windows[lowOf (pairOf w)]).reload.toNat
       else (s.windows[w]).reload.toNat
     let answer : Answer := ⟨.ok, [BitVec.ofNat 8 w.val]⟩
     (code = 0x32 → exec (.startWindow p) s = .next
       ((State.settingsWritten { s with windows := s.windows.set base { c with running := true } }).answered p answer)) ∧
     (code = 0x33 → exec (.stopWindow p) s = .next
       ((State.settingsWritten { s with windows := s.windows.set base { c with running := false } }).answered p answer)) ∧
     (code = 0x34 → exec (.presetWindow p) s = .next
       (({ s with windows := s.windows.set base (c.presetTo count), table := talliesZeroed base s.table } :
         State).answered p answer)))

/-- R76, R77, R78: JOIN_PAIR. The high counter of a pair just joined keeps a count of its own reload, which no port sees
(log entry 23). R65: which counters count, and by which reload and compare. -/
def Obligations.JoinPairJoinsAndSplits : Prop :=
  (∀ (s : State) (p : Port) (k : Fin 4) (action : Byte), s.Granted p 0x31 [BitVec.ofNat 8 k.val, action] →
     s.frozen = false → action.toNat ≤ 1 →
     let lo := s.windows[lowOf k]
     let hi := s.windows[highOf k]
     let stopped := lo.running = false ∧ hi.running = false
     let bound := ∃ e ∈ s.table, e.boundTo (highOf k) = true
     let done (flag : Bool) (count : Nat) : State :=
       (State.settingsWritten
         { s with joined := s.joined.set k flag
                  windows := (s.windows.set (lowOf k) (lo.presetTo count)).set (highOf k) (hi.presetTo hi.reload.toNat)
                  table := talliesZeroed (lowOf k) s.table }).answered p ⟨.ok, [BitVec.ofNat 8 k.val]⟩
     (¬ stopped → exec (.joinPair p) s = .next (s.answered p ⟨.windowRunning, [BitVec.ofNat 8 k.val]⟩)) ∧
     (stopped → action = 1 → bound →
       exec (.joinPair p) s = .next (s.answered p ⟨.windowBound, [BitVec.ofNat 8 k.val]⟩)) ∧
     (stopped → action = 1 → ¬ bound →
       exec (.joinPair p) s = .next (done true (hi.reload.toNat * 65536 + lo.reload.toNat))) ∧
     (stopped → action = 0 → exec (.joinPair p) s = .next (done false lo.reload.toNat))) ∧
  (∀ (s : State) (w : Fin 8),
    let lo := s.windows[lowOf (pairOf w)]
    let hi := s.windows[highOf (pairOf w)]
    (s.counts w = false ↔ s.joined[pairOf w] = true ∧ w = highOf (pairOf w)) ∧
    (s.joined[pairOf w] = true → s.effectiveReload w = hi.reload.toNat * 65536 + lo.reload.toNat ∧
      s.effectiveCompare w = hi.compare.toNat * 65536 + lo.compare.toNat) ∧
    (s.joined[pairOf w] = false → s.effectiveReload w = (s.windows[w]).reload.toNat ∧
      s.effectiveCompare w = (s.windows[w]).compare.toNat))

/-! ## Joint changes -/

/-- R98, R109: FREEZE on either table, UNFREEZE on an unfrozen one. R133: SET_AUTOSAVE on an unfrozen table. R59, R60:
BIND_INPUT on an unfrozen table with its state checks. -/
def Obligations.SettingCommandsWriteTheirSettings : Prop :=
  ((∀ (s : State) (p : Port) (hi lo : Byte), s.Granted p 0x50 [hi, lo] →
     let asked : Word16 := hi ++ lo
     (asked = 0 ∨ (100 ≤ asked.toNat ∧ asked.toNat ≤ 60000)) →
     let lifetime : Word16 := if asked = 0 then 5000 else asked
     (s.frozen = true → exec (.freeze p) s = .next (s.answered p ⟨.frozen, be16 s.lifetime⟩)) ∧
     (s.frozen = false → exec (.freeze p) s = .next
       ((State.settingsWritten { s with frozen := true, lifetime := lifetime }).answered p ⟨.ok, be16 lifetime⟩))) ∧
   (∀ (s : State) (p : Port), s.Granted p 0x51 [] → s.frozen = false →
     exec (.unfreeze p) s = .next (s.answered p ⟨.notFrozen, []⟩))) ∧
  (∀ (s : State) (p : Port) (worsen i1 i0 : Byte), s.Granted p 0x61 [worsen, i1, i0] → s.frozen = false →
     worsen.toNat ≤ 1 → (i1 ++ i0 : Word16).toNat ≤ 1440 →
     exec (.setAutosave p) s = .next
       ((State.settingsWritten
         { s with
           autosaveOnWorsen := decide (worsen = 1)
           autosaveInterval := i1 ++ i0
           intervalTimer := (i1 ++ i0 : Word16).toNat * 60000 }).answered p ⟨.ok, [worsen, i1, i0]⟩)) ∧
  (∀ (s : State) (p : Port) (i : Fin 4) (id : Byte) (filter edge : Byte) (f : Filter) (g : Edge),
     s.Granted p 0x40 [BitVec.ofNat 8 i.val, id, filter, edge] → s.frozen = false → id.toNat ≤ 254 →
     f.toByte = filter → g.toByte = edge →
     let bound (b : Option Byte) : State :=
       (State.settingsWritten
         { s with inputs := s.inputs.set i { s.inputs[i] with binding := b, filter := f, edge := g } }).answered p
         ⟨.ok, [BitVec.ofNat 8 i.val]⟩
     (id = 0 → exec (.bindInput p) s = .next (bound none)) ∧
     (∀ e, id ≠ 0 → findEntry id s.table = some e → e.kind.isLevel = false →
       exec (.bindInput p) s = .next (bound (some id))) ∧
     (∀ e, id ≠ 0 → findEntry id s.table = some e → e.kind.isLevel = true →
       exec (.bindInput p) s = .next (s.answered p ⟨.badKind, [id]⟩)) ∧
     (id ≠ 0 → findEntry id s.table = none → exec (.bindInput p) s = .next (s.answered p ⟨.noEntry, [id]⟩)))

/-- R99, R100, R101: on a frozen table every structural command that passes its range check becomes a proposal with the
next free number, or is answered PROPOSALS_FULL. A reclaimed slot's number counts as free (log entry 18), and a held number
is passed over when the proposal is made (log entry 32): both are the model's choices. -/
def Obligations.StructuralCommandsBecomeProposals : Prop :=
  (∀ (c : Instr) (s : State) (p : Port) (code : Byte) (kind : StructuralCode) (ps : List Byte),
     portAndCode c = some (p, code) → structuralCode code = some kind → s.Granted p code ps → s.frozen = true →
     blockOk code ps = true →
     (∀ k, s.newSlot k → ∃ n : Word16, ∃ j : Nat, j ≤ 3 ∧ n = succNumber^[j] s.nextNumber ∧ ¬ s.heldElsewhere k n ∧
       (∀ i, i < j → s.heldElsewhere k (succNumber^[i] s.nextNumber)) ∧
       exec c s = .next (State.answered
         { s with
           proposals := s.proposals.set k (some ⟨n, p, kind, ps, s.lifetime.toNat, none⟩)
           closingOrder := s.closingOrder.filter (fun x => x != k)
           madeOrder := s.madeOrder.filter (fun x => x != k) ++ [k]
           nextNumber := if n = 0xFFFF then 1 else n + 1 } p ⟨.proposed, be16 n ++ be16 s.lifetime⟩)) ∧
     ((∀ k : Fin 4, s.proposals[k] ≠ none) → s.closingOrder = [] →
       exec c s = .next (s.answered p ⟨.proposalsFull, []⟩))) ∧
  (∀ n : Word16, succNumber n = if n = 0xFFFF then 1 else n + 1)

/-- R103, R104, R110: CONFIRM. A held command does what it does when it is granted on an unfrozen table; an UNFREEZE clears
the frozen flag and discards every other OPEN proposal. -/
def Obligations.ConfirmAppliesTheHeldCommand : Prop :=
  (∀ (s : State) (p : Port) (hi lo : Byte), s.Granted p 0x52 [hi, lo] → s.ProposalInv →
    ((∀ (k : Fin 4) (q : Proposal), s.proposals[k] = some q → q.number ≠ hi ++ lo) →
      exec (.confirm p) s = .next (s.answered p ⟨.noProposal, [hi, lo]⟩)) ∧
    (∀ (k : Fin 4) (q : Proposal), s.proposals[k] = some q → q.number = hi ++ lo →
      (∀ o, q.outcome = some o → exec (.confirm p) s = .next (s.answered p ⟨.tooLate, [hi, lo, o.toByte]⟩)) ∧
      (q.outcome = none → q.proposer = p →
        exec (.confirm p) s = .next (s.answered p ⟨.selfConfirm, [hi, lo]⟩)) ∧
      (q.outcome = none → q.proposer ≠ p → q.code ≠ .unfreeze →
        let r := applyHeld q.code q.params s
        exec (.confirm p) s = .next (State.answered
          { r.1 with
            proposals := s.proposals.set k (some { q with outcome := some (.applied r.2.status), remaining := 0 })
            closingOrder := s.closingOrder ++ [k] } p ⟨r.2.status, [hi, lo] ++ r.2.result⟩)) ∧
      (q.outcome = none → q.proposer ≠ p → q.code = .unfreeze → q.params = [] →
        ∃ t : State, exec (.confirm p) s = .next (t.answered p ⟨.ok, [hi, lo]⟩) ∧
          t = { s.settingsWritten with
                frozen := false, proposals := t.proposals
                closingOrder := s.closingOrder ++ [k] ++ s.madeOrder.filter (fun j => j != k && s.isOpen j) } ∧
          (∀ j : Fin 4, t.proposals[j] =
            if j = k then some { q with outcome := some (.applied .ok), remaining := 0 }
            else (s.proposals[j]).map (fun x =>
              if x.outcome = none then { x with outcome := some .discarded, remaining := 0 } else x))))) ∧
  (∀ (c : Instr) (s : State) (p : Port) (code : Byte) (kind : StructuralCode) (ps : List Byte),
    portAndCode c = some (p, code) → structuralCode code = some kind → kind ≠ .unfreeze → s.Granted p code ps →
    s.frozen = false → blockOk code ps = true →
    exec c s = .next ((applyHeld kind ps s).1.answered p (applyHeld kind ps s).2))

/-- R106, R107, R108: WITHDRAW and READ_PROPOSAL. 10.2, 10.3, 10.5, R169: the codes of ports, held commands and
proposal outcomes. -/
def Obligations.WithdrawAndReadProposalAreJudgedByTheirSlot : Prop :=
  (∀ (s : State) (p : Port) (code hi lo : Byte), s.Granted p code [hi, lo] → s.ProposalInv →
     (code = 0x53 → (∀ (k : Fin 4) (q : Proposal), s.proposals[k] = some q → q.number ≠ hi ++ lo) →
       exec (.withdraw p) s = .next (s.answered p ⟨.noProposal, [hi, lo]⟩)) ∧
     (∀ (k : Fin 4) (q : Proposal), code = 0x53 → s.proposals[k] = some q → q.number = hi ++ lo →
       (∀ o, q.outcome = some o → exec (.withdraw p) s = .next (s.answered p ⟨.tooLate, [hi, lo, o.toByte]⟩)) ∧
       (q.outcome = none → q.proposer ≠ p →
         exec (.withdraw p) s = .next (s.answered p ⟨.notProposer, [hi, lo]⟩)) ∧
       (q.outcome = none → q.proposer = p →
         exec (.withdraw p) s = .next (State.answered
           { s with
             proposals := s.proposals.set k (some { q with outcome := some .withdrawn, remaining := 0 })
             closingOrder := s.closingOrder ++ [k] } p ⟨.ok, [hi, lo]⟩))) ∧
     (code = 0x54 → hi ++ lo = (0 : Word16) →
       let made := s.madeOrder.filterMap (fun k => s.proposals[k])
       exec (.readProposal p) s = .next (s.answered p
         ⟨.ok, [BitVec.ofNat 8 made.length] ++ made.flatMap (fun q => be16 q.number ++
           [Port.toByte q.proposer, if q.outcome = none then 1 else 2, q.code.toByte] ++
           be16 (BitVec.ofNat 16 q.remaining))⟩)) ∧
     (code = 0x54 → hi ++ lo ≠ (0 : Word16) →
       (∀ (k : Fin 4) (q : Proposal), s.proposals[k] = some q → q.number ≠ hi ++ lo) →
       exec (.readProposal p) s = .next (s.answered p ⟨.noProposal, [hi, lo]⟩)) ∧
     (∀ (k : Fin 4) (q : Proposal), code = 0x54 → s.proposals[k] = some q → q.number = hi ++ lo →
       let bytes := be16 q.number ++ [Port.toByte q.proposer, if q.outcome = none then 1 else 2, q.code.toByte,
           BitVec.ofNat 8 q.params.length] ++ q.params ++ be16 (BitVec.ofNat 16 q.remaining) ++
         (match q.outcome with | some o => [1, o.toByte] | none => [0])
       (q.outcome = none ∨ q.proposer ≠ p → exec (.readProposal p) s = .next (s.answered p ⟨.ok, bytes⟩)) ∧
       (q.outcome ≠ none → q.proposer = p →
         exec (.readProposal p) s = .next (State.answered
           { s with
             proposals := s.proposals.set k none
             closingOrder := s.closingOrder.filter (fun j => j != k)
             madeOrder := s.madeOrder.filter (fun j => j != k) } p ⟨.ok, bytes⟩)))) ∧
  ([Port.a, .b, .c].map Port.toByte = [1, 2, 3] ∧
   (∀ st, [ProposalOutcome.applied st, .withdrawn, .expired, .discarded].map ProposalOutcome.toByte =
     [st.toByte, 0x80, 0x81, 0x82]) ∧
   [StructuralCode.define, .retire, .tune, .clear, .setWindow, .joinPair, .startWindow, .stopWindow, .presetWindow,
     .bindInput, .setAutosave, .unfreeze].map StructuralCode.toByte =
     [0x10, 0x11, 0x12, 0x13, 0x30, 0x31, 0x32, 0x33, 0x34, 0x40, 0x61, 0x51])

/-! ## The time base -/

/-- R66, R102, R134: a tick while the part is READY; while it is not, nothing counts (R64, R113, R134). R37, R137: a second of
uptime. R134: the interval timer at 0 makes an INTERVAL request and is loaded again. R102: an OPEN proposal whose remaining
lifetime is 0 expires. That what a tick brings to its end is taken as a step of its own, and that a timer reloaded before
that step makes no request, is the model's choice (log entry 11). -/
def Obligations.TimeBaseTicksSecondsAndExpiries : Prop :=
  (∀ s : State,
     (s.ready = true → ∃ t : State, exec .tick s = .next t ∧
       t = { s with windows := t.windows, proposals := t.proposals, intervalTimer := s.intervalTimer - 1 } ∧
       (∀ w : Fin 8, t.windows[w] =
         if s.counts w = true ∧ (s.windows[w]).running = true ∧ (s.windows[w]).source.toByte = 0 then
           { s.windows[w] with phase := (s.windows[w]).phase + 1 }
         else s.windows[w]) ∧
       (∀ k : Fin 4, t.proposals[k] = (s.proposals[k]).map (fun q =>
         if q.outcome = none then { q with remaining := q.remaining - 1 } else q))) ∧
     (s.ready = false → exec .tick s = .next s)) ∧
  ((∀ s : State, s.live = true → exec .uptimeSecond s = .next
     { s with
       uptime := s.uptime + 1
       sinceSave := s.sinceSave.map (fun x => if x = 0xFFFFFFFF then x else x + 1) }) ∧
   (∀ s : State, s.ready = true → s.autosaveInterval ≠ 0 → s.intervalTimer = 0 →
     exec .intervalTimerExpiry s = .next
       (State.requestSave { s with intervalTimer := s.autosaveInterval.toNat * 60000 } .ofInterval))) ∧
  (∀ (s : State) (k : Fin 4) (q : Proposal), s.ready = true → s.ProposalInv → s.proposals[k] = some q →
     q.outcome = none → q.remaining = 0 →
     exec (.proposalExpiry k) s = .next
       { s with proposals := s.proposals.set k (some { q with outcome := some .expired })
                closingOrder := s.closingOrder ++ [k] })

/-! ## Saves -/

/-- R120, R121, R122, R135, R161: SAVE and the internal save requests, in every state of the retention unit. -/
def Obligations.SaveRequestsAreHandledByTheStateTheyFind : Prop :=
  (∀ (s : State) (p : Port), s.Granted p 0x60 [] →
     let running : State :=
       { s with
         lastGranted := some p
         ports := s.ports.set p { s.ports.get p with slot := { s.slot p with state := .running } } }
     (s.mode = .faulted → exec (.save p) s = .next (s.answered p ⟨.retentionFault, []⟩)) ∧
     (s.mode ≠ .faulted → s.pfwAsserted = true → exec (.save p) s = .next (s.answered p ⟨.held, []⟩)) ∧
     (s.mode = .held → exec (.save p) s = .next (s.answered p ⟨.held, []⟩)) ∧
     (s.mode = .idle → s.pfwAsserted = false →
       exec (.save p) s = .next (running.startSave (PortSet.only p) .ofPort)) ∧
     (s.mode = .auditing → s.pfwAsserted = false →
       exec (.save p) s = .next (State.startSave
         { running with audit := { s.audit with status := .abortedBySave } } (PortSet.only p) .ofPort)) ∧
     (∀ sv w, s.mode = .saving sv w → s.pfwAsserted = false → ∃ x : PendingSave,
       exec (.save p) s = .next { running with mode := .saving sv (some x) } ∧
       x.causes = { (match w with | some y => y.causes | none => Causes.none) with port := true } ∧
       ∀ q, x.requesters.get q = true ↔
         q = p ∨ ∃ y, w = some y ∧ y.requesters.get q = true)) ∧
  (∀ (s : State) (c : Causes),
     (s.pfwAsserted = true ∨ s.mode = .held ∨ s.mode = .faulted → s.requestSave c = s) ∧
     (s.mode = .idle → s.pfwAsserted = false → s.requestSave c = s.startSave PortSet.none c) ∧
     (s.mode = .auditing → s.pfwAsserted = false → s.requestSave c =
       State.startSave { s with audit := { s.audit with status := .abortedBySave } } PortSet.none c) ∧
     (∀ sv, s.mode = .saving sv none → s.pfwAsserted = false →
       s.requestSave c = { s with mode := .saving sv (some ⟨PortSet.none, c⟩) }) ∧
     (∀ sv x, s.mode = .saving sv (some x) → s.pfwAsserted = false →
       s.requestSave c = { s with mode := .saving sv (some ⟨x.requesters, x.causes.union c⟩) }))

/-- R124, R125: a save starts with its snapshot and its note, on the inactive image, with the next generation. -/
def Obligations.SavesStartWithTheirSnapshot : Prop :=
  ∀ (s : State) (who : PortSet) (c : Causes), ∃ sv : Save,
    s.startSave who c =
      { s with mode := .saving sv none
               imageInfo := s.imageInfo.set sv.target { s.imageInfo.get sv.target with state := .blank } } ∧
    sv.target = (match s.activeImage with | some .a => .b | some .b => .a | none => .a) ∧
    sv.generation = (match s.activeImage with
      | some i =>
        if (s.imageInfo.get i).generation = 0xFFFFFFFF then 1 else (s.imageInfo.get i).generation + 1
      | none => 1) ∧
    sv.cancelsOlder = (match s.activeImage with
      | some i => decide ((s.imageInfo.get i).generation = 0xFFFFFFFF)
      | none => false) ∧
    sv.image = imageOf s sv.generation c ∧ sv.causes = c ∧ sv.requesters = who ∧ sv.stage = .erasing ∧
    sv.note.settings = s.settingsUnsaved ∧
    (∀ id, id ∈ sv.note.ids ↔ ∃ e ∈ s.table, e.id = id ∧ e.unsaved = true)

/-- R125, R126, R128, R136: the open marking, and the end of a save that succeeds. R127, R128, R129: the end of a save that
fails, up to the third failure. Two things here are the model's choices: SAVE_END may come while the save still has its first
stage, which then implies the open marking (log entry 22, DESIGN CHOICE), and what the read-back found is an operand of
SAVE_END (log entry 14, DESIGN CHOICE). -/
def Obligations.SavesEndInSuccessOrFailure : Prop :=
  ((∀ (s : State) (sv : Save) (w : Option PendingSave), s.mode = .saving sv w → sv.stage = .erasing →
     exec .openMarkingWritten s = .next
       { s with
         mode := .saving { sv with stage := .marked } w
         array := s.array.set sv.target { s.array.get sv.target with header := .openMarked }
         imageInfo := s.imageInfo.set sv.target { s.imageInfo.get sv.target with state := .invalid } }) ∧
   (∀ (s : State) (sv : Save) (w : Option PendingSave), s.mode = .saving sv w →
     let array := s.array.set sv.target sv.image
     let info := s.imageInfo.set sv.target ⟨.valid, sv.generation, sv.causes, sv.image.positions.length⟩
     let older := sv.target.other
     let saved : State := State.placeAnswers
       { s with
         array := if sv.cancelsOlder then array.set older { array.get older with header := .cancelled } else array
         imageInfo := if sv.cancelsOlder then info.set older { info.get older with state := .invalid } else info
         activeImage := some sv.target
         table := s.table.map (fun e => if e.id ∈ sv.note.ids then { e with unsaved := false } else e)
         settingsUnsaved := s.settingsUnsaved && !sv.note.settings
         failures := 0
         sinceSave := some 0
         intervalTimer := s.autosaveInterval.toNat * 60000 }
       sv.requesters ⟨.ok, [match sv.target with | .a => (1 : Byte) | .b => 2] ++ be32 sv.generation⟩
     (∀ x, w = some x → exec (.saveEnd true) s = .next (saved.startSave x.requesters x.causes)) ∧
     (w = none → s.pfwAsserted = true → exec (.saveEnd true) s = .next { saved with mode := .held }) ∧
     (w = none → s.pfwAsserted = false → exec (.saveEnd true) s = .next { saved with mode := .idle })) ∧
   (∀ (s : State) (who : PortSet) (a : Answer) (p : Port),
     (s.placeAnswers who a).slot p =
       if who.get p = true ∧ (s.slot p).state = .running then (s.slot p).answered a else s.slot p)) ∧
  (∀ (s : State) (sv : Save) (w : Option PendingSave), s.mode = .saving sv w →
     let failed : State := State.placeAnswers
       { s with
         array := s.array.set sv.target { s.array.get sv.target with header := .cancelled }
         imageInfo := s.imageInfo.set sv.target { s.imageInfo.get sv.target with state := .invalid }
         failures := s.failures + 1 }
       sv.requesters ⟨.saveFailed, [BitVec.ofNat 8 (s.failures + 1)]⟩
     (∀ x, s.failures + 1 < 3 → w = some x →
       exec (.saveEnd false) s = .next (failed.startSave x.requesters x.causes)) ∧
     (s.failures + 1 < 3 → w = none → s.pfwAsserted = true →
       exec (.saveEnd false) s = .next { failed with mode := .held }) ∧
     (s.failures + 1 < 3 → w = none → s.pfwAsserted = false →
       exec (.saveEnd false) s = .next { failed with mode := .idle }) ∧
     (3 ≤ s.failures + 1 → w = none → exec (.saveEnd false) s = .next { failed with mode := .faulted }) ∧
     (∀ x, 3 ≤ s.failures + 1 → w = some x → exec (.saveEnd false) s = .next
       (State.placeAnswers { failed with mode := .faulted } x.requesters ⟨.retentionFault, []⟩)))

/-- R131, R132: PFW_N asserted and released, in every state of the retention unit. -/
def Obligations.ThePowerFailWarningStartsASaveAndHolds : Prop :=
  (∀ s : State, s.live = true → s.pfwAsserted = false →
    let warned : State := { s with pfwAsserted := true }
    (s.mode = .idle → exec .pfwAssertion s = .next (warned.startSave PortSet.none .ofPowerFail)) ∧
    (s.mode = .auditing → exec .pfwAssertion s = .next (State.startSave
      { warned with audit := { s.audit with status := .abortedBySave } } PortSet.none .ofPowerFail)) ∧
    (∀ sv, s.mode = .saving sv none → exec .pfwAssertion s = .next
      { warned with mode := .saving sv (some ⟨PortSet.none, Causes.ofPowerFail⟩) }) ∧
    (∀ sv x, s.mode = .saving sv (some x) → exec .pfwAssertion s = .next
      { warned with mode := .saving sv (some ⟨x.requesters, { x.causes with powerFail := true }⟩) }) ∧
    (s.mode = .loading ∨ s.mode = .held ∨ s.mode = .faulted → exec .pfwAssertion s = .next warned)) ∧
  (∀ s : State, s.pfwAsserted = true →
    exec .pfwRelease s = .next
      { s with pfwAsserted := false, mode := if s.mode = .held then .idle else s.mode })

/-! ## The audit sweep -/

/-- R139, R140: AUDIT is judged in order, and accepted from IDLE with an active image. 10.3: the codes of the
audit statuses. -/
def Obligations.AuditIsAcceptedOrRefusedInOrder : Prop :=
  (∀ (s : State) (p : Port) (mode : Byte), s.Granted p 0x63 [mode] → mode = 1 ∨ mode = 2 →
     let refused (status : Status) : State :=
       s.answered p ⟨status, [s.audit.status.toByte, BitVec.ofNat 8 s.audit.pointer]⟩
     let aborted := s.audit.status = .abortedBySave ∨ s.audit.status = .abortedByChange
     (s.mode = .faulted → exec (.audit p) s = .next (refused .retentionFault)) ∧
     (s.mode = .held → exec (.audit p) s = .next (refused .held)) ∧
     ((s.mode = .auditing ∨ ∃ sv w, s.mode = .saving sv w) → exec (.audit p) s = .next (refused .busy)) ∧
     (s.mode = .idle → s.activeImage = none → exec (.audit p) s = .next (refused .noImage)) ∧
     (s.mode = .idle → s.activeImage ≠ none → mode = 2 → ¬ aborted →
       exec (.audit p) s = .next (refused .badState)) ∧
     (s.mode = .idle → s.activeImage ≠ none → mode = 1 →
       exec (.audit p) s = .next (State.answered
         { s with mode := .auditing, audit := ⟨.running, 0, 0, 0, 0, 0, 0, 0, []⟩ } p ⟨.ok, [1, 0]⟩)) ∧
     (s.mode = .idle → s.activeImage ≠ none → mode = 2 → aborted →
       exec (.audit p) s = .next (State.answered
         { s with mode := .auditing, audit := { s.audit with status := .running } } p
         ⟨.ok, [2, BitVec.ofNat 8 s.audit.pointer]⟩))) ∧
  [AuditStatus.neverRun, .running, .allDone, .abortedBySave, .abortedByChange].map AuditStatus.toByte = [0, 1, 2, 3, 4]

/-- R141 to R144: a segment ends with each of its positions judged once, and the last one ends the sweep. Which words of the
array have failed is the command's operand (log entry 14). R115, R117, R142: when a position stands after the last one kept
(a field the kind lacks must be 0, log entry 16); a position without a record does not (log entry 30, DEDUCED). -/
def Obligations.SegmentsJudgeEachPositionOnce : Prop :=
  (∀ (s : State) (faults : List ArrayFault) (i : ImageId), s.mode = .auditing → s.activeImage = some i →
    let array := failArray s.array faults
    let count := (s.imageInfo.get i).count
    let positions := ((List.range count).filter
      (fun n => decide (6 * s.audit.pointer ≤ n) && decide (n ≤ 6 * s.audit.pointer + 5))).map
      (fun n => (array.get i).positions[n]?)
    let judged := positions.foldl (Audit.judgePosition s.table) s.audit
    let done : State :=
      { s with
        array := array
        mode := .idle
        audit := { judged with
          status := .allDone
          pointer := s.audit.pointer + 1
          fresh := (s.table.filter (fun e => decide (e.id ∉ judged.kept))).length } }
    (s.audit.pointer < 7 → exec (.auditSegmentEnd faults) s = .next
      { s with array := array, audit := { judged with pointer := s.audit.pointer + 1 } }) ∧
    (s.audit.pointer = 7 → judged.damaged = 0 → exec (.auditSegmentEnd faults) s = .next done) ∧
    (s.audit.pointer = 7 → judged.damaged ≠ 0 →
      exec (.auditSegmentEnd faults) s = .next (done.requestSave .ofRepair))) ∧
  (∀ (t : List Entry) (a : Audit) (r : EntryRecord),
    let kept : Audit := { a with lastKept := r.id, kept := a.kept ++ [r.id] }
    (stands a.lastKept (some r) = false → Audit.judgePosition t a (some r) = { a with damaged := a.damaged + 1 }) ∧
    (stands a.lastKept (some r) = true → findEntry r.id t = none →
      Audit.judgePosition t a (some r) = { kept with missing := a.missing + 1 }) ∧
    (∀ e, stands a.lastKept (some r) = true → findEntry r.id t = some e →
      let x := recordOf e
      ((r.kind, r.cls, r.reporters, r.trip, r.step, r.allowance, r.window, r.settle) =
          (x.kind, x.cls, x.reporters, x.trip, x.step, x.allowance, x.window, x.settle) →
        Audit.judgePosition t a (some r) = { kept with matched := a.matched + 1 }) ∧
      ((r.kind, r.cls, r.reporters, r.trip, r.step, r.allowance, r.window, r.settle) ≠
          (x.kind, x.cls, x.reporters, x.trip, x.step, x.allowance, x.window, x.settle) →
        Audit.judgePosition t a (some r) = { kept with differs := a.differs + 1 }))) ∧
  (∀ (t : List Entry) (a : Audit) (last : Byte),
    stands last none = false ∧ Audit.judgePosition t a none = { a with damaged := a.damaged + 1 } ∧
    ∀ r : EntryRecord, stands last (some r) = true ↔ r.StandsAfter last)

/-! ## Frames -/

/-- R149, R150, R152: a COMMAND frame is judged at its release, in order, and an accepted one fills the slot. `bytes` are
the whole bytes after the kind byte; the reply is 00h on every byte, the kind byte included (R148, log entry 15). R163: no
frame is taken while RST_N is asserted or power is off (log entry 21), and a frame that was open at the release of RST_N is
ignored whole, its own release ending that; that it leaves `reply` as it stood is the model's choice (log entry 15). R148: a
frame of no whole byte changes nothing (log entry 15). -/
def Obligations.CommandFramesAreJudgedInOrder : Prop :=
  (∀ (s : State) (p : Port) (bytes : List Byte), s.live = true → (s.ports.get p).ignoreFrame = false →
    let u := s.ports.get p
    let announced := (bytes.getD 2 0).toNat
    let received := bytes.length + 1
    let result (r : FrameResult) (slot : Slot) : State :=
      { s with ports := s.ports.set p ⟨slot, r, List.replicate (bytes.length + 1) 0, false⟩ }
    (received < 4 → exec (.commandFrame p bytes) s = .next (result .truncated u.slot)) ∧
    (4 ≤ received → 58 < announced → exec (.commandFrame p bytes) s = .next (result .overlong u.slot)) ∧
    (4 ≤ received → announced ≤ 58 → received < announced + 5 →
      exec (.commandFrame p bytes) s = .next (result .truncated u.slot)) ∧
    (announced ≤ 58 → announced + 5 < received →
      exec (.commandFrame p bytes) s = .next (result .overlong u.slot)) ∧
    (announced ≤ 58 → received = announced + 5 → 0xC3 + sum8 bytes ≠ 0 →
      exec (.commandFrame p bytes) s = .next (result .badCheck u.slot)) ∧
    (announced ≤ 58 → received = announced + 5 → 0xC3 + sum8 bytes = 0 → u.slot.state ≠ .empty →
      exec (.commandFrame p bytes) s = .next (result .slotBusy u.slot)) ∧
    (∀ (tag code len check : Byte) (params : List Byte), bytes = [tag, code, len] ++ params ++ [check] →
      len.toNat = params.length → params.length ≤ 58 → 0xC3 + sum8 bytes = 0 → u.slot.state = .empty →
      exec (.commandFrame p bytes) s = .next (result .accepted ⟨.waiting, tag, code, params, none⟩))) ∧
  (∀ (c : Instr) (p : Port) (s : State), framePort c = some p →
    (s.live = false → exec c s = .next s) ∧
    (s.live = true → (s.ports.get p).ignoreFrame = true →
      exec c s = .next { s with ports := s.ports.set p { s.ports.get p with ignoreFrame := false } }) ∧
    (∀ n, c = .badKindFrame p none n → (s.ports.get p).ignoreFrame = false → exec c s = .next s))

/-- R148, R153, R154, R155: POLL, FETCH and BAD_KIND frames. What a frame returned is the model's view of SDO_x (log entry
15); that a POLL or FETCH returns 00h while its kind byte comes in is the model's inference (log entry 34, DEDUCED). 10.1.1,
10.3, 10.5: the codes of statuses, slot states, frame results and verdicts. -/
def Obligations.PollFetchAndUnknownKinds : Prop :=
  (∀ (s : State) (p : Port) (n : Nat), s.live = true → (s.ports.get p).ignoreFrame = false →
     let u := s.ports.get p
     let returned (bytes : List Byte) : List Byte := 0 :: (bytes ++ List.replicate n 0).take n
     let close (body : List Byte) : List Byte := body ++ [0 - sum8 body]
     let response (a : Answer) : List Byte :=
       close ([a.status.toByte, u.slot.tag, u.slot.code, BitVec.ofNat 8 a.result.length] ++ a.result)
     (exec (.poll p n) s = .next
       { s with ports := s.ports.set p { u with reply := returned (close
           [if s.mode = .loading then 0 else 1, u.slot.state.toByte, u.slot.tag, u.frameResult.toByte,
            (match (s.notices.get p).state with | .clear => 0 | .pending => 1), s.verdict.toByte,
            s.verdictSeq.extractLsb' 8 8, s.verdictSeq.extractLsb' 0 8]) } }) ∧
     (∀ a, u.slot.state = .done → u.slot.response = some a → a.result.length + 5 ≤ n →
       exec (.fetch p n) s = .next
         { s with
           ports := s.ports.set p
             { u with slot := ⟨.empty, u.slot.tag, 0, [], none⟩, reply := returned (response a) } }) ∧
     (∀ a, u.slot.state = .done → u.slot.response = some a → n < a.result.length + 5 →
       exec (.fetch p n) s = .next
         { s with ports := s.ports.set p { u with reply := returned (response a) } }) ∧
     (u.slot.state = .waiting ∨ u.slot.state = .running → exec (.fetch p n) s = .next
       { s with
         ports := s.ports.set p
           { u with reply := returned (close [0x02, u.slot.tag, u.slot.code, 0]) } }) ∧
     (u.slot.state = .empty → exec (.fetch p n) s = .next
       { s with ports := s.ports.set p { u with reply := returned (close [0x02, 0, 0, 0]) } }) ∧
     (∀ kind : Byte, kind ∉ [(0xC3 : Byte), 0xA5, 0x5A, 0x99] → exec (.badKindFrame p (some kind) n) s = .next
       { s with ports := s.ports.set p { u with frameResult := .badKind, reply := List.replicate (n + 1) 0 } })) ∧
  ([Status.ok, .proposed, .notReady, .unknownCommand, .badParam, .noEntry, .idInUse, .tableFull, .badKind, .badWindow,
     .notPermitted, .windowRunning, .windowBound, .frozen, .notFrozen, .stale, .nothingPending, .noProposal, .tooLate,
     .selfConfirm, .proposalsFull, .notProposer, .busy, .held, .saveFailed, .retentionFault, .noImage,
     .badState].map Status.toByte =
     [0x00, 0x01, 0x02, 0x10, 0x11, 0x12, 0x13, 0x14, 0x15, 0x16, 0x17, 0x18, 0x19, 0x1A, 0x1B, 0x1C, 0x1D, 0x1E, 0x1F,
      0x20, 0x21, 0x22, 0x23, 0x24, 0x25, 0x26, 0x27, 0x28] ∧
   [SlotState.empty, .waiting, .running, .done].map SlotState.toByte = [0, 1, 2, 3] ∧
   [FrameResult.none, .accepted, .slotBusy, .badCheck, .truncated, .overlong, .badKind, .resetDone].map
     FrameResult.toByte = [0, 1, 2, 3, 4, 5, 6, 7] ∧
   [Verdict.nominal, .service, .urgent].map Verdict.toByte = [0, 1, 2])

/-- R91, R112, R123, R156, R157: a PORT RESET frame. R151, R158: one whose release falls inside the request of the port's own
granted command empties the slot first; the request then ends with all its effects, and no answer is placed. `during` is the
model's operand (log entry 3). That it does nothing for a SAVE and a SET_NOTICE, so that the reset is then the plain one taken
before the grant (no save starts, the last granted port stays), is the model's choice (log entry 33, DESIGN CHOICE): R157,
R123 and R158 also let a granted SAVE go on without its port, and that order is SAVE followed by PORT_RESET. A frame with a
wrong second byte that is too long as well is recorded BAD_CHECK or OVERLONG, which the manual leaves open (log entry 12). -/
def Obligations.PortResetEmptiesItsPort : Prop :=
  ∀ (s : State) (p : Port) (bytes : List Byte) (during : Bool), s.live = true → (s.ports.get p).ignoreFrame = false →
    let u := s.ports.get p
    let discarded (r : FrameResult) : State :=
      { s with ports := s.ports.set p { u with frameResult := r, reply := List.replicate (bytes.length + 1) 0 } }
    let mine (k : Fin 4) : Bool := match s.proposals[k] with | some q => q.proposer == p | none => false
    (bytes = [] → exec (.portReset p ⟨bytes, during⟩) s = .next (discarded .truncated)) ∧
    (∀ x, bytes = [x] → x ≠ 0x66 → exec (.portReset p ⟨bytes, during⟩) s = .next (discarded .badCheck)) ∧
    (∀ y rest, bytes = 0x66 :: y :: rest → exec (.portReset p ⟨bytes, during⟩) s = .next (discarded .overlong)) ∧
    (∀ x y rest, bytes = x :: y :: rest → x ≠ 0x66 →
      exec (.portReset p ⟨bytes, during⟩) s = .next (discarded .badCheck) ∨
      exec (.portReset p ⟨bytes, during⟩) s = .next (discarded .overlong)) ∧
    (∀ (c : Instr) (code : Byte) (ps : List Byte), bytes = [0x66] → during = true → s.Granted p code ps →
      (portAndCode c = some (p, code) ∨ c = .unknownCommand p ∧ ∀ d, portAndCode d ≠ some (p, code)) →
      code ≠ 0x60 → code ≠ 0x22 →
      ∃ w v : State, exec (.portReset p ⟨bytes, false⟩) s = .next w ∧
        exec c { w with ports := w.ports.set p { w.ports.get p with slot := s.slot p } } = .next v ∧
        exec (.portReset p ⟨bytes, during⟩) s = .next { v with ports := w.ports }) ∧
    (bytes = [0x66] → (during = false ∨ s.ready = false ∨ s.nextGrant ≠ some p ∨ u.slot.code ∈ [(0x60 : Byte), 0x22]) →
      ∃ t : State, exec (.portReset p ⟨bytes, during⟩) s = .next t ∧
      t = { s with
            ports := s.ports.set p ⟨⟨.empty, 0, 0, [], none⟩, .resetDone, [0, 0], false⟩
            notices := s.notices.set p ⟨.worsen, .clear⟩
            proposals := t.proposals
            closingOrder := s.closingOrder.filter (fun k => !mine k)
            madeOrder := s.madeOrder.filter (fun k => !mine k)
            mode := t.mode } ∧
      (∀ k : Fin 4, t.proposals[k] = match mine k with | true => none | false => s.proposals[k]) ∧
      ((∀ sv w, s.mode ≠ .saving sv w) → t.mode = s.mode) ∧
      (∀ sv, s.mode = .saving sv none →
        t.mode = .saving { sv with requesters := sv.requesters.set p false } none) ∧
      (∀ sv x, s.mode = .saving sv (some x) →
        let left : PendingSave := ⟨x.requesters.set p false, x.causes⟩
        let kept := (∃ q, left.requesters.get q = true) ∨ x.causes.worsen = true ∨ x.causes.interval = true ∨
          x.causes.powerFail = true ∨ x.causes.repair = true
        (kept → t.mode = .saving { sv with requesters := sv.requesters.set p false } (some left)) ∧
        (¬ kept → t.mode = .saving { sv with requesters := sv.requesters.set p false } none)))

/-! ## Reset and load -/

/-- R58, R84, R113, R116, R130, R138, R151, R152, R159, R163: power-on and the assertion of RST_N bring every block to its
reset state and leave the pins, and a save in flight leaves the array as its step had it. Three things here are the model's
choices: every block of a part without power stands at its reset values (log entry 21, DEDUCED), the words that have failed
are an operand (log entry 14, DESIGN CHOICE), and so is how far the save had got (log entry 13, DESIGN CHOICE). -/
def Obligations.ResetsBringEveryBlockToItsResetState : Prop :=
  ∀ (s : State) (selected : PortSet) (cut : CutPoint) (faults : List ArrayFault),
    let fresh (t : State) : Prop :=
      (∀ p, t.slot p = ⟨.empty, 0, 0, [], none⟩ ∧ (t.ports.get p).frameResult = .none ∧
        t.notices.get p = ⟨.worsen, .clear⟩) ∧
      t.lastGranted = none ∧ t.mode = .loading ∧ t.table = [] ∧ t.verdict = .nominal ∧ t.verdictSeq = 0 ∧
      t.verdictSince = 0 ∧ t.uptime = 0 ∧ t.history = [] ∧ (∀ k : Fin 4, t.proposals[k] = none) ∧
      t.closingOrder = [] ∧ t.madeOrder = [] ∧ t.nextNumber = 1 ∧ t.loadBuilt = false ∧ t.failures = 0 ∧
      t.sinceSave = none ∧ t.audit = ⟨.neverRun, 0, 0, 0, 0, 0, 0, 0, []⟩ ∧
      (∀ i : Fin 4, (t.inputs[i]).level = (s.inputs[i]).level ∧ (t.inputs[i]).folds = 0 ∧
        (t.inputs[i]).judging = none ∧ (t.inputs[i]).windowPulses = Vector.replicate 8 0 ∧ (t.inputs[i]).accepted = 0 ∧
        (t.inputs[i]).unbound = 0 ∧ (t.inputs[i]).acceptedOnce = false) ∧
      (∀ w : Fin 8, (t.windows[w]).waiting = [] ∧ (t.windows[w]).closes = 0) ∧
      t.pfwAsserted = s.pfwAsserted ∧
      (∀ i, t.imageInfo.get i = (t.array.get i).info) ∧ t.activeImage = chooseActive t.imageInfo
    (∃ t : State, exec (.reset (.powerOn selected) cut faults) s = .next t ∧ fresh t ∧ t.powered = true ∧
      (∀ p, (t.ports.get p).ignoreFrame = selected.get p) ∧
      t.rstAsserted = s.rstAsserted ∧ t.array = failArray (s.cutSave cut) faults) ∧
    (s.powered = true → ∃ t : State, exec (.reset .rstN cut faults) s = .next t ∧ fresh t ∧ t.powered = true ∧
      t.rstAsserted = true ∧ t.array = failArray (s.cutSave cut) faults) ∧
    (∃ t : State, exec (.lossOfPower cut) s = .next t ∧ fresh t ∧ t.powered = false ∧ t.rstAsserted = s.rstAsserted ∧
      t.array = s.cutSave cut)

/-- R115: when an image is BLANK, VALID or INVALID, and what a load keeps of its header. R116, R130: which image a load
takes, and what a cut save leaves of the image it was writing. The words the header check runs over and the marker's value
are the model's (log entry 6). -/
def Obligations.CutSavesLeaveALoadableImage : Prop :=
  (∀ info : PerImage ImageInfo,
    (info.a.state = .valid → info.b.state = .valid →
      chooseActive info =
        (if info.a.generation = info.b.generation then some .a
         else if info.a.generation = 1 ∧ info.b.generation = 0xFFFFFFFF then some .a
         else if info.b.generation = 1 ∧ info.a.generation = 0xFFFFFFFF then some .b
         else if info.a.generation.toNat < info.b.generation.toNat then some .b else some .a)) ∧
    (info.a.state = .valid → info.b.state ≠ .valid → chooseActive info = some .a) ∧
    (info.a.state ≠ .valid → info.b.state = .valid → chooseActive info = some .b) ∧
    (info.a.state ≠ .valid → info.b.state ≠ .valid → chooseActive info = none)) ∧
  (∀ (s : State) (sv : Save) (w : Option PendingSave), s.mode = .saving sv w →
    let left (cut : CutPoint) : Image := (s.cutSave cut).get sv.target
    (sv.stage = .erasing → left .beforeErase = s.array.get sv.target ∧
      (left .erasingHeader).judge = .invalid ∧ (left .headerErased).judge = .blank) ∧
    (sv.stage = .marked → (left .writing).judge = .invalid) ∧
    (sv.cancelsOlder = false → ∀ cut, (s.cutSave cut).get sv.target.other = s.array.get sv.target.other) ∧
    (sv.stage = .marked → sv.cancelsOlder = true → ∀ older, left (.checkWritten older) = sv.image)) ∧
  (∀ i : Image,
    (i.judge = .blank ↔ i.header = .erased) ∧
    (i.judge = .valid ↔ ∃ h : HeaderRecord, i.header = .written h ∧ h.marker = Config.formatMarker ∧ h.count.toNat ≤ 48 ∧
      sum16 (h.words ++ i.settings.words ++ [h.check]) = 0xFFFF) ∧
    (i.judge = .invalid ↔ i.judge ≠ .blank ∧ i.judge ≠ .valid)) ∧
  (∀ i : Image, i.info.state = i.judge ∧ ∀ h : HeaderRecord, i.header = .written h →
    i.info = ⟨i.judge, h.generation, h.causes, h.count.toNat⟩)

/-- R40, R96, R117, R118, R134: LOAD_END, with and without an active image, up to the hand-over of its record and up to
READY, and what a load keeps of the image's positions and settings. No other state moves: a WAITING command stays (R162),
the array stays (R116). Three clauses are the model's readings of R117 and R118: a field that a record's kind lacks must be
0 (log entry 16, DEDUCED), a source and selector that do not fit load together as TICK 1000 ms (log entry 17, DEDUCED), and
a position without a record is dropped (log entry 30, DEDUCED). That LOAD_END may stop at the record, a second one then only
finishing the load, is the model's choice (log entry 24, DESIGN CHOICE), and so is that a LOAD_END outside a load and a
release of a released RST_N do nothing (log entry 1, DESIGN CHOICE). R163: the release of RST_N. -/
def Obligations.LoadsEndInReady : Prop :=
  (∀ s : State, s.live = true → s.mode = .loading → s.loadBuilt = false → s.verdict = .nominal →
    ∃ t : State, exec (.loadEnd .record) s = .next t ∧ exec (.loadEnd .ready) s = .next t.asStarted ∧
      t.asStarted.ready = true ∧
      t = { s.asLoaded with
            verdict := deriveVerdict s.asLoaded.table
            verdictSeq := t.verdictSeq, verdictSince := t.verdictSince, notices := t.notices, history := t.history
            loadBuilt := true } ∧
      (t.verdict = .nominal → t.verdictSeq = s.verdictSeq ∧ t.verdictSince = s.verdictSince ∧ t.notices = s.notices ∧
        t.history = s.history) ∧
      (t.verdict ≠ .nominal → t.verdictSeq = s.verdictSeq + 1 ∧ t.verdictSince = s.uptime ∧
        t.history = (⟨s.verdictSeq + 1, .nominal, t.verdict, .load, s.uptime⟩ :: s.history).take 12 ∧
        t.notices = s.notices.map (fun n => if n.mask = .none then n else ⟨n.mask, .pending⟩))) ∧
  (∀ s : State, s.live = true → s.mode = .loading → s.loadBuilt = true →
    exec (.loadEnd .record) s = .next s ∧ exec (.loadEnd .ready) s = .next s.asStarted) ∧
  (∀ (s : State) (upTo : LoadPoint), s.live = false ∨ s.mode ≠ .loading → exec (.loadEnd upTo) s = .next s) ∧
  (∀ (last : Byte) (r : EntryRecord) (rs : List (Option EntryRecord)),
    loadEntries last [] = [] ∧ loadEntries last (none :: rs) = loadEntries last rs ∧
    (r.StandsAfter last → loadEntries last (some r :: rs) = entryOf r :: loadEntries r.id rs) ∧
    (¬ r.StandsAfter last → loadEntries last (some r :: rs) = loadEntries last rs)) ∧
  (∀ (s : State) (x : SettingsRecord),
    let t := s.loadSettings x
    t = { s with
          frozen := decide (x.frozen = 1), autosaveOnWorsen := decide (x.onWorsen = 1), settingsUnsaved := false
          lifetime := if 100 ≤ x.lifetime.toNat ∧ x.lifetime.toNat ≤ 60000 then x.lifetime else 5000
          autosaveInterval := if x.interval.toNat ≤ 1440 then x.interval else 0
          windows := t.windows, joined := t.joined, inputs := t.inputs } ∧
    (∀ k : Fin 4, t.joined[k] = true ↔ x.joined[k] = 1 ∧ ∀ e ∈ s.table, e.boundTo (highOf k) = false) ∧
    (∀ w : Fin 8,
      let c := x.counters[w]
      let d := t.windows[w]
      d.reload = (if c.reload = 0 then 60 else c.reload) ∧ d.compare = c.compare ∧ d.phase = 0 ∧ d.closes = 0 ∧
      d.waiting = [] ∧ (t.counts w = true → d.count = t.effectiveReload w) ∧
      (d.running = true ↔ c.running = 1 ∧ ¬ (w = highOf (pairOf w) ∧ x.joined[pairOf w] = 1)) ∧
      ((c.source = 0 ∧ c.selector.toNat ≤ 7) ∨ (c.source = 1 ∧ c.selector.toNat ≤ 3) →
        d.source.toByte = c.source ∧ d.source.selector = c.selector) ∧
      (¬ ((c.source = 0 ∧ c.selector.toNat ≤ 7) ∨ (c.source = 1 ∧ c.selector.toNat ≤ 3)) →
        d.source = .tick .ms1000)) ∧
    (∀ i : Fin 4,
      let y := x.inputs[i]
      let e := t.inputs[i]
      e = { s.inputs[i] with binding := e.binding, filter := e.filter, edge := e.edge } ∧
      (∀ id, e.binding = some id ↔ id = y.binding ∧ ∃ z, findEntry id s.table = some z ∧ z.kind.isLevel = false) ∧
      (y.filter.toNat ≤ 3 → e.filter.toByte = y.filter) ∧ (3 < y.filter.toNat → e.filter = .off) ∧
      (y.edge.toNat ≤ 1 → e.edge.toByte = y.edge) ∧ (1 < y.edge.toNat → e.edge = .rise))) ∧
  (∀ (s : State) (selected : PortSet), s.rstAsserted = true → ∃ t : State,
    exec (.rstNRelease selected) s = .next t ∧ t = { s with rstAsserted := false, ports := t.ports } ∧
    ∀ p, t.ports.get p = { s.ports.get p with ignoreFrame := selected.get p }) ∧
  (∀ (s : State) (selected : PortSet), s.rstAsserted = false → exec (.rstNRelease selected) s = .next s)

/-! ## What commands leave unchanged -/

/-- Frames other than PORT RESET touch the unit of their own port and nothing else (R148 to R155). Commands that read change
nothing but their slot; ACK and SET_NOTICE touch their port's notice alone, AUDIT the sweep and the retention state (R17, R18,
R41, R62, R82, R88, R90, R94, R137, R139, R147, R160, R164). -/
def Obligations.FramesAndReadsLeaveEverythingElse : Prop :=
  (∀ (c : Instr) (p : Port) (s t : State),
     (∃ bytes, c = .commandFrame p bytes) ∨ (∃ n, c = .poll p n) ∨ (∃ n, c = .fetch p n) ∨
       (∃ kind n, c = .badKindFrame p kind n) →
     exec c s = .next t →
     t = { s with ports := t.ports } ∧ (∀ q, q ≠ p → t.ports.get q = s.ports.get q) ∧
     (∀ n, c = .poll p n → (t.ports.get p).slot = s.slot p ∧
       (t.ports.get p).frameResult = (s.ports.get p).frameResult)) ∧
  (∀ (c : Instr) (p : Port) (s t : State), exec c s = .next t →
     (c ∈ [Instr.identify p, .readEntry p, .list p, .readVerdict p, .readHistory p, .readWindow p, .readInput p,
         .readRetention p, .readAudit p, .unknownCommand p] →
       t = { s with ports := t.ports, lastGranted := t.lastGranted } ∧ onlySlotState p s t) ∧
     (c ∈ [Instr.ack p, .setNotice p] →
       t = { s with ports := t.ports, lastGranted := t.lastGranted, notices := t.notices } ∧ onlySlotState p s t ∧
       (∀ q, q ≠ p → t.notices.get q = s.notices.get q)) ∧
     (c = .audit p →
       t = { s with ports := t.ports, lastGranted := t.lastGranted, mode := t.mode, audit := t.audit } ∧
       onlySlotState p s t))

/-- Commands and events that move entries leave the windows, the settings but for a retired binding, the images, the time
base and the pins as they are, and every notice mask (R8, R10, R14, R16, R47 to R51, R55, R70, R72). -/
def Obligations.EntryCommandsLeaveTheRest : Prop :=
  ∀ (c : Instr) (p : Port) (s t : State), exec c s = .next t →
    (c ∈ [Instr.define p, .retire p, .tune p, .clear p, .report p] →
      t = { s with
            ports := t.ports, lastGranted := t.lastGranted, table := t.table, verdict := t.verdict,
            verdictSeq := t.verdictSeq, verdictSince := t.verdictSince, notices := t.notices, history := t.history,
            mode := t.mode, imageInfo := t.imageInfo, audit := t.audit, proposals := t.proposals,
            closingOrder := t.closingOrder, madeOrder := t.madeOrder, nextNumber := t.nextNumber,
            settingsUnsaved := t.settingsUnsaved, inputs := t.inputs } ∧
      onlySlotState p s t ∧ (∀ q, (t.notices.get q).mask = (s.notices.get q).mask) ∧
      (s.frozen = true → c ≠ .report p → t.table = s.table ∧ t.verdict = s.verdict ∧ t.mode = s.mode) ∧
      (s.frozen = false ∨ c = .report p → t.proposals = s.proposals ∧ t.closingOrder = s.closingOrder ∧
        t.madeOrder = s.madeOrder ∧ t.nextNumber = s.nextNumber) ∧
      (c ≠ .retire p → t.settingsUnsaved = s.settingsUnsaved ∧ t.inputs = s.inputs) ∧
      (∀ i : Fin 4, t.inputs[i] = { s.inputs[i] with binding := (t.inputs[i]).binding })) ∧
    (∀ (i : Fin 4) (w : Fin 8), c ∈ [Instr.pulseFold i, .windowClose w, .earlyLook w] →
      t = { s with
            table := t.table, verdict := t.verdict, verdictSeq := t.verdictSeq, verdictSince := t.verdictSince,
            notices := t.notices, history := t.history, mode := t.mode, imageInfo := t.imageInfo, audit := t.audit,
            inputs := t.inputs, windows := t.windows } ∧
      (∀ q, (t.notices.get q).mask = (s.notices.get q).mask) ∧
      (∀ j : Fin 4, t.inputs[j] =
        { s.inputs[j] with folds := (t.inputs[j]).folds, unbound := (t.inputs[j]).unbound }) ∧
      (∀ v : Fin 8, t.windows[v] =
        { s.windows[v] with waiting := (t.windows[v]).waiting, closes := (t.windows[v]).closes }))

/-- Window and setting commands leave the verdict, the notices, the images and the time base but for the interval timer, and
move no field of an entry but tallies (R60, R75 to R80, R98, R109, R133); decrements touch the counters and the handed pulses
alone (R66 to R68). -/
def Obligations.WindowAndSettingCommandsLeaveTheRest : Prop :=
  (∀ (c : Instr) (p : Port) (s t : State), exec c s = .next t →
    c ∈ [Instr.setWindow p, .joinPair p, .startWindow p, .stopWindow p, .presetWindow p, .bindInput p, .setAutosave p,
      .freeze p, .unfreeze p] →
    t = { s with
          ports := t.ports, lastGranted := t.lastGranted, windows := t.windows, joined := t.joined, table := t.table,
          inputs := t.inputs, frozen := t.frozen, lifetime := t.lifetime, autosaveOnWorsen := t.autosaveOnWorsen,
          autosaveInterval := t.autosaveInterval, intervalTimer := t.intervalTimer,
          settingsUnsaved := t.settingsUnsaved, mode := t.mode, proposals := t.proposals,
          closingOrder := t.closingOrder, madeOrder := t.madeOrder, nextNumber := t.nextNumber } ∧
    onlySlotState p s t ∧ t.table.map Entry.zeroTally = s.table.map Entry.zeroTally ∧
    (t.mode = s.mode ∨ t.mode = s.mode.withdrawSettings) ∧
    (c ≠ .joinPair p → c ≠ .presetWindow p → t.table = s.table) ∧ (c ≠ .joinPair p → t.joined = s.joined) ∧
    (c ≠ .bindInput p → t.inputs = s.inputs) ∧
    (c ≠ .freeze p → t.frozen = s.frozen ∧ t.lifetime = s.lifetime) ∧
    (c ≠ .setAutosave p → t.autosaveOnWorsen = s.autosaveOnWorsen ∧ t.autosaveInterval = s.autosaveInterval ∧
      t.intervalTimer = s.intervalTimer) ∧
    (c ∈ [Instr.bindInput p, .setAutosave p, .freeze p, .unfreeze p] → t.windows = s.windows) ∧
    (c = .presetWindow p → t.settingsUnsaved = s.settingsUnsaved) ∧
    (s.frozen = true → t.windows = s.windows ∧ t.table = s.table ∧ t.joined = s.joined ∧ t.inputs = s.inputs ∧
      t.settingsUnsaved = s.settingsUnsaved ∧ t.autosaveOnWorsen = s.autosaveOnWorsen ∧
      t.autosaveInterval = s.autosaveInterval ∧ t.intervalTimer = s.intervalTimer ∧ t.frozen = s.frozen ∧
      t.lifetime = s.lifetime) ∧
    (s.frozen = false → t.proposals = s.proposals ∧ t.closingOrder = s.closingOrder ∧ t.madeOrder = s.madeOrder ∧
      t.nextNumber = s.nextNumber)) ∧
  (∀ (w : Fin 8) (s t : State), exec (.windowTickDecrement w) s = .next t →
    t = { s with windows := t.windows } ∧ ∀ v : Fin 8, v ≠ w → t.windows[v] = s.windows[v]) ∧
  (∀ (i : Fin 4) (w : Fin 8) (s t : State), exec (.windowEventDecrement ⟨i, w⟩) s = .next t →
    t = { s with windows := t.windows, inputs := t.inputs } ∧
    (∀ j : Fin 4, j ≠ i → t.inputs[j] = s.inputs[j]) ∧
    t.inputs[i] = { s.inputs[i] with windowPulses := (t.inputs[i]).windowPulses } ∧
    ∀ v : Fin 8, v ≠ w → t.windows[v] = s.windows[v] ∧ (t.inputs[i]).windowPulses[v] = (s.inputs[i]).windowPulses[v])

/-- The retention unit's own events, the power-fail line, ticks and seconds leave the entries but for the marks a save
clears, the verdict, the notices, the history, the windows' settings and the joined flags (R37, R66, R102, R124 to R134,
R141 to R144). -/
def Obligations.RetentionAndTimeEventsLeaveTheRest : Prop :=
  ∀ (c : Instr) (s t : State), exec c s = .next t →
    (∀ b : Bool, c = .saveEnd b →
      t = { s with
            ports := t.ports, table := t.table, settingsUnsaved := t.settingsUnsaved, array := t.array,
            imageInfo := t.imageInfo, activeImage := t.activeImage, mode := t.mode, failures := t.failures,
            sinceSave := t.sinceSave, intervalTimer := t.intervalTimer } ∧
      t.table.map (fun e => { e with unsaved := false }) = s.table.map (fun e => { e with unsaved := false }) ∧
      (∀ q, t.ports.get q =
        { s.ports.get q with
          slot := { s.slot q with state := (t.slot q).state, response := (t.slot q).response } }) ∧
      (b = false → t.table = s.table ∧ t.settingsUnsaved = s.settingsUnsaved ∧ t.activeImage = s.activeImage ∧
        t.sinceSave = s.sinceSave ∧ t.intervalTimer = s.intervalTimer)) ∧
    (c ∈ [Instr.openMarkingWritten, .pfwAssertion, .pfwRelease, .intervalTimerExpiry] →
      t = { s with
            array := t.array, imageInfo := t.imageInfo, mode := t.mode, audit := t.audit,
            pfwAsserted := t.pfwAsserted, intervalTimer := t.intervalTimer }) ∧
    (∀ faults, c = .auditSegmentEnd faults →
      t = { s with array := t.array, imageInfo := t.imageInfo, mode := t.mode, audit := t.audit }) ∧
    (c = .tick →
      t = { s with windows := t.windows, proposals := t.proposals, intervalTimer := t.intervalTimer } ∧
      (∀ w : Fin 8, t.windows[w] = { s.windows[w] with phase := (t.windows[w]).phase }) ∧
      ∀ k : Fin 4, (t.proposals[k]).map (fun q => { q with remaining := 0 }) =
        (s.proposals[k]).map (fun q => { q with remaining := 0 })) ∧
    (c = .uptimeSecond → t = { s with uptime := t.uptime, sinceSave := t.sinceSave })

/-! ## The command arbiter -/

/-- R4, R118, R163: when the part is READY. R159: the grant goes to the first WAITING slot from the port after the last
granted one, A first when there is none; a port just granted is not granted again while another one waits; a granted command
makes its port the last granted one. That a command row of a port the arbiter does not grant, of a part that is not READY
(R4), or of a code the slot does not hold changes nothing is the model's choice for such a row (log entry 1, DESIGN CHOICE).
-/
def Obligations.TheArbiterGrantsInTurn : Prop :=
  (∀ (s : State) (x y z : Port),
    (x, y, z) = (match s.lastGranted with
      | none => (Port.a, Port.b, Port.c)
      | some .a => (.b, .c, .a)
      | some .b => (.c, .a, .b)
      | some .c => (.a, .b, .c)) →
    let waits (p : Port) : Prop := (s.slot p).state = .waiting
    (waits x → s.nextGrant = some x) ∧ (¬ waits x → waits y → s.nextGrant = some y) ∧
    (¬ waits x → ¬ waits y → waits z → s.nextGrant = some z) ∧
    (¬ waits x → ¬ waits y → ¬ waits z → s.nextGrant = none)) ∧
  (∀ (s : State) (q r : Port), s.lastGranted = some q → r ≠ q → (s.slot r).state = .waiting → s.nextGrant ≠ some q) ∧
  (∀ (c : Instr) (p : Port) (code : Byte) (ps : List Byte) (s : State), portAndCode c = some (p, code) →
    s.Granted p code ps → ∃ t : State, exec c s = .next t ∧ t.lastGranted = some p) ∧
  (∀ (c : Instr) (p : Port) (code : Byte) (s : State), portAndCode c = some (p, code) →
    s.ready = false ∨ s.nextGrant ≠ some p ∨ (s.slot p).code ≠ code → exec c s = .next s) ∧
  (∀ (p : Port) (s : State),
    s.ready = false ∨ s.nextGrant ≠ some p ∨ (∃ c, portAndCode c = some (p, (s.slot p).code)) →
    exec (.unknownCommand p) s = .next s) ∧
  (∀ s : State, s.ready = true ↔ s.powered = true ∧ s.rstAsserted = false ∧ s.mode ≠ .loading)
end

