-- ==== Sys2Proof/Laws/State.lean ====
section
/-! SUPPORT. What each named update of the state writes and what it leaves: one lemma per field per update, true by `rfl`. -/

namespace Sys2Proof.Machine

/-! ## One value for each port or image -/

@[simp] theorem perPort_get_set {α : Type} (x : PerPort α) (p q : Port) (v : α) :
    (x.set p v).get q = if q = p then v else x.get q := by cases p <;> cases q <;> rfl

@[simp] theorem perPort_get_map {α β : Type} (f : α → β) (x : PerPort α) (p : Port) :
    (x.map f).get p = f (x.get p) := by cases p <;> rfl

@[simp] theorem perPort_set_set {α : Type} (x : PerPort α) (p : Port) (v w : α) :
    (x.set p v).set p w = x.set p w := by cases p <;> rfl

@[simp] theorem perPort_set_get {α : Type} (x : PerPort α) (p : Port) : x.set p (x.get p) = x := by cases p <;> rfl

theorem perPort_ext {α : Type} {x y : PerPort α} (h : ∀ p, x.get p = y.get p) : x = y := by
  obtain ⟨a, b, c⟩ := x
  obtain ⟨a', b', c'⟩ := y
  have ha := h .a
  have hb := h .b
  have hc := h .c
  simp only [PerPort.get] at ha hb hc
  subst ha hb hc
  rfl

@[simp] theorem perImage_get_set {α : Type} (x : PerImage α) (i j : ImageId) (v : α) :
    (x.set i v).get j = if j = i then v else x.get j := by cases i <;> cases j <;> rfl

@[simp] theorem other_ne (i : ImageId) : i.other ≠ i := by cases i <;> decide

/-! ## The named updates -/

/-! ### setPort -/

@[simp] theorem State.setPort_pending (s : State) (p : Port) (u : PortUnit) :
    (s.setPort p u).pending = s.pending := rfl

@[simp] theorem State.setPort_powered (s : State) (p : Port) (u : PortUnit) :
    (s.setPort p u).powered = s.powered := rfl

@[simp] theorem State.setPort_rstAsserted (s : State) (p : Port) (u : PortUnit) :
    (s.setPort p u).rstAsserted = s.rstAsserted := rfl

@[simp] theorem State.setPort_pfwAsserted (s : State) (p : Port) (u : PortUnit) :
    (s.setPort p u).pfwAsserted = s.pfwAsserted := rfl

@[simp] theorem State.setPort_ports (s : State) (p : Port) (u : PortUnit) :
    (s.setPort p u).ports = s.ports.set p u := rfl

@[simp] theorem State.setPort_lastGranted (s : State) (p : Port) (u : PortUnit) :
    (s.setPort p u).lastGranted = s.lastGranted := rfl

@[simp] theorem State.setPort_table (s : State) (p : Port) (u : PortUnit) :
    (s.setPort p u).table = s.table := rfl

@[simp] theorem State.setPort_frozen (s : State) (p : Port) (u : PortUnit) :
    (s.setPort p u).frozen = s.frozen := rfl

@[simp] theorem State.setPort_lifetime (s : State) (p : Port) (u : PortUnit) :
    (s.setPort p u).lifetime = s.lifetime := rfl

@[simp] theorem State.setPort_autosaveOnWorsen (s : State) (p : Port) (u : PortUnit) :
    (s.setPort p u).autosaveOnWorsen = s.autosaveOnWorsen := rfl

@[simp] theorem State.setPort_autosaveInterval (s : State) (p : Port) (u : PortUnit) :
    (s.setPort p u).autosaveInterval = s.autosaveInterval := rfl

@[simp] theorem State.setPort_settingsUnsaved (s : State) (p : Port) (u : PortUnit) :
    (s.setPort p u).settingsUnsaved = s.settingsUnsaved := rfl

@[simp] theorem State.setPort_verdict (s : State) (p : Port) (u : PortUnit) :
    (s.setPort p u).verdict = s.verdict := rfl

@[simp] theorem State.setPort_verdictSeq (s : State) (p : Port) (u : PortUnit) :
    (s.setPort p u).verdictSeq = s.verdictSeq := rfl

@[simp] theorem State.setPort_verdictSince (s : State) (p : Port) (u : PortUnit) :
    (s.setPort p u).verdictSince = s.verdictSince := rfl

@[simp] theorem State.setPort_uptime (s : State) (p : Port) (u : PortUnit) :
    (s.setPort p u).uptime = s.uptime := rfl

@[simp] theorem State.setPort_inputs (s : State) (p : Port) (u : PortUnit) :
    (s.setPort p u).inputs = s.inputs := rfl

@[simp] theorem State.setPort_windows (s : State) (p : Port) (u : PortUnit) :
    (s.setPort p u).windows = s.windows := rfl

@[simp] theorem State.setPort_joined (s : State) (p : Port) (u : PortUnit) :
    (s.setPort p u).joined = s.joined := rfl

@[simp] theorem State.setPort_notices (s : State) (p : Port) (u : PortUnit) :
    (s.setPort p u).notices = s.notices := rfl

@[simp] theorem State.setPort_history (s : State) (p : Port) (u : PortUnit) :
    (s.setPort p u).history = s.history := rfl

@[simp] theorem State.setPort_proposals (s : State) (p : Port) (u : PortUnit) :
    (s.setPort p u).proposals = s.proposals := rfl

@[simp] theorem State.setPort_closingOrder (s : State) (p : Port) (u : PortUnit) :
    (s.setPort p u).closingOrder = s.closingOrder := rfl

@[simp] theorem State.setPort_madeOrder (s : State) (p : Port) (u : PortUnit) :
    (s.setPort p u).madeOrder = s.madeOrder := rfl

@[simp] theorem State.setPort_nextNumber (s : State) (p : Port) (u : PortUnit) :
    (s.setPort p u).nextNumber = s.nextNumber := rfl

@[simp] theorem State.setPort_array (s : State) (p : Port) (u : PortUnit) :
    (s.setPort p u).array = s.array := rfl

@[simp] theorem State.setPort_imageInfo (s : State) (p : Port) (u : PortUnit) :
    (s.setPort p u).imageInfo = s.imageInfo := rfl

@[simp] theorem State.setPort_activeImage (s : State) (p : Port) (u : PortUnit) :
    (s.setPort p u).activeImage = s.activeImage := rfl

@[simp] theorem State.setPort_mode (s : State) (p : Port) (u : PortUnit) :
    (s.setPort p u).mode = s.mode := rfl

@[simp] theorem State.setPort_failures (s : State) (p : Port) (u : PortUnit) :
    (s.setPort p u).failures = s.failures := rfl

@[simp] theorem State.setPort_droppedAtLoad (s : State) (p : Port) (u : PortUnit) :
    (s.setPort p u).droppedAtLoad = s.droppedAtLoad := rfl

@[simp] theorem State.setPort_sinceSave (s : State) (p : Port) (u : PortUnit) :
    (s.setPort p u).sinceSave = s.sinceSave := rfl

@[simp] theorem State.setPort_intervalTimer (s : State) (p : Port) (u : PortUnit) :
    (s.setPort p u).intervalTimer = s.intervalTimer := rfl

@[simp] theorem State.setPort_loadBuilt (s : State) (p : Port) (u : PortUnit) :
    (s.setPort p u).loadBuilt = s.loadBuilt := rfl

@[simp] theorem State.setPort_audit (s : State) (p : Port) (u : PortUnit) :
    (s.setPort p u).audit = s.audit := rfl

/-! ### setSlot -/

@[simp] theorem State.setSlot_pending (s : State) (p : Port) (x : Slot) :
    (s.setSlot p x).pending = s.pending := rfl

@[simp] theorem State.setSlot_powered (s : State) (p : Port) (x : Slot) :
    (s.setSlot p x).powered = s.powered := rfl

@[simp] theorem State.setSlot_rstAsserted (s : State) (p : Port) (x : Slot) :
    (s.setSlot p x).rstAsserted = s.rstAsserted := rfl

@[simp] theorem State.setSlot_pfwAsserted (s : State) (p : Port) (x : Slot) :
    (s.setSlot p x).pfwAsserted = s.pfwAsserted := rfl

@[simp] theorem State.setSlot_ports (s : State) (p : Port) (x : Slot) :
    (s.setSlot p x).ports = s.ports.set p { s.ports.get p with slot := x } := rfl

@[simp] theorem State.setSlot_lastGranted (s : State) (p : Port) (x : Slot) :
    (s.setSlot p x).lastGranted = s.lastGranted := rfl

@[simp] theorem State.setSlot_table (s : State) (p : Port) (x : Slot) :
    (s.setSlot p x).table = s.table := rfl

@[simp] theorem State.setSlot_frozen (s : State) (p : Port) (x : Slot) :
    (s.setSlot p x).frozen = s.frozen := rfl

@[simp] theorem State.setSlot_lifetime (s : State) (p : Port) (x : Slot) :
    (s.setSlot p x).lifetime = s.lifetime := rfl

@[simp] theorem State.setSlot_autosaveOnWorsen (s : State) (p : Port) (x : Slot) :
    (s.setSlot p x).autosaveOnWorsen = s.autosaveOnWorsen := rfl

@[simp] theorem State.setSlot_autosaveInterval (s : State) (p : Port) (x : Slot) :
    (s.setSlot p x).autosaveInterval = s.autosaveInterval := rfl

@[simp] theorem State.setSlot_settingsUnsaved (s : State) (p : Port) (x : Slot) :
    (s.setSlot p x).settingsUnsaved = s.settingsUnsaved := rfl

@[simp] theorem State.setSlot_verdict (s : State) (p : Port) (x : Slot) :
    (s.setSlot p x).verdict = s.verdict := rfl

@[simp] theorem State.setSlot_verdictSeq (s : State) (p : Port) (x : Slot) :
    (s.setSlot p x).verdictSeq = s.verdictSeq := rfl

@[simp] theorem State.setSlot_verdictSince (s : State) (p : Port) (x : Slot) :
    (s.setSlot p x).verdictSince = s.verdictSince := rfl

@[simp] theorem State.setSlot_uptime (s : State) (p : Port) (x : Slot) :
    (s.setSlot p x).uptime = s.uptime := rfl

@[simp] theorem State.setSlot_inputs (s : State) (p : Port) (x : Slot) :
    (s.setSlot p x).inputs = s.inputs := rfl

@[simp] theorem State.setSlot_windows (s : State) (p : Port) (x : Slot) :
    (s.setSlot p x).windows = s.windows := rfl

@[simp] theorem State.setSlot_joined (s : State) (p : Port) (x : Slot) :
    (s.setSlot p x).joined = s.joined := rfl

@[simp] theorem State.setSlot_notices (s : State) (p : Port) (x : Slot) :
    (s.setSlot p x).notices = s.notices := rfl

@[simp] theorem State.setSlot_history (s : State) (p : Port) (x : Slot) :
    (s.setSlot p x).history = s.history := rfl

@[simp] theorem State.setSlot_proposals (s : State) (p : Port) (x : Slot) :
    (s.setSlot p x).proposals = s.proposals := rfl

@[simp] theorem State.setSlot_closingOrder (s : State) (p : Port) (x : Slot) :
    (s.setSlot p x).closingOrder = s.closingOrder := rfl

@[simp] theorem State.setSlot_madeOrder (s : State) (p : Port) (x : Slot) :
    (s.setSlot p x).madeOrder = s.madeOrder := rfl

@[simp] theorem State.setSlot_nextNumber (s : State) (p : Port) (x : Slot) :
    (s.setSlot p x).nextNumber = s.nextNumber := rfl

@[simp] theorem State.setSlot_array (s : State) (p : Port) (x : Slot) :
    (s.setSlot p x).array = s.array := rfl

@[simp] theorem State.setSlot_imageInfo (s : State) (p : Port) (x : Slot) :
    (s.setSlot p x).imageInfo = s.imageInfo := rfl

@[simp] theorem State.setSlot_activeImage (s : State) (p : Port) (x : Slot) :
    (s.setSlot p x).activeImage = s.activeImage := rfl

@[simp] theorem State.setSlot_mode (s : State) (p : Port) (x : Slot) :
    (s.setSlot p x).mode = s.mode := rfl

@[simp] theorem State.setSlot_failures (s : State) (p : Port) (x : Slot) :
    (s.setSlot p x).failures = s.failures := rfl

@[simp] theorem State.setSlot_droppedAtLoad (s : State) (p : Port) (x : Slot) :
    (s.setSlot p x).droppedAtLoad = s.droppedAtLoad := rfl

@[simp] theorem State.setSlot_sinceSave (s : State) (p : Port) (x : Slot) :
    (s.setSlot p x).sinceSave = s.sinceSave := rfl

@[simp] theorem State.setSlot_intervalTimer (s : State) (p : Port) (x : Slot) :
    (s.setSlot p x).intervalTimer = s.intervalTimer := rfl

@[simp] theorem State.setSlot_loadBuilt (s : State) (p : Port) (x : Slot) :
    (s.setSlot p x).loadBuilt = s.loadBuilt := rfl

@[simp] theorem State.setSlot_audit (s : State) (p : Port) (x : Slot) :
    (s.setSlot p x).audit = s.audit := rfl

/-! ### setNotice -/

@[simp] theorem State.setNotice_pending (s : State) (p : Port) (n : Notice) :
    (s.setNotice p n).pending = s.pending := rfl

@[simp] theorem State.setNotice_powered (s : State) (p : Port) (n : Notice) :
    (s.setNotice p n).powered = s.powered := rfl

@[simp] theorem State.setNotice_rstAsserted (s : State) (p : Port) (n : Notice) :
    (s.setNotice p n).rstAsserted = s.rstAsserted := rfl

@[simp] theorem State.setNotice_pfwAsserted (s : State) (p : Port) (n : Notice) :
    (s.setNotice p n).pfwAsserted = s.pfwAsserted := rfl

@[simp] theorem State.setNotice_ports (s : State) (p : Port) (n : Notice) :
    (s.setNotice p n).ports = s.ports := rfl

@[simp] theorem State.setNotice_lastGranted (s : State) (p : Port) (n : Notice) :
    (s.setNotice p n).lastGranted = s.lastGranted := rfl

@[simp] theorem State.setNotice_table (s : State) (p : Port) (n : Notice) :
    (s.setNotice p n).table = s.table := rfl

@[simp] theorem State.setNotice_frozen (s : State) (p : Port) (n : Notice) :
    (s.setNotice p n).frozen = s.frozen := rfl

@[simp] theorem State.setNotice_lifetime (s : State) (p : Port) (n : Notice) :
    (s.setNotice p n).lifetime = s.lifetime := rfl

@[simp] theorem State.setNotice_autosaveOnWorsen (s : State) (p : Port) (n : Notice) :
    (s.setNotice p n).autosaveOnWorsen = s.autosaveOnWorsen := rfl

@[simp] theorem State.setNotice_autosaveInterval (s : State) (p : Port) (n : Notice) :
    (s.setNotice p n).autosaveInterval = s.autosaveInterval := rfl

@[simp] theorem State.setNotice_settingsUnsaved (s : State) (p : Port) (n : Notice) :
    (s.setNotice p n).settingsUnsaved = s.settingsUnsaved := rfl

@[simp] theorem State.setNotice_verdict (s : State) (p : Port) (n : Notice) :
    (s.setNotice p n).verdict = s.verdict := rfl

@[simp] theorem State.setNotice_verdictSeq (s : State) (p : Port) (n : Notice) :
    (s.setNotice p n).verdictSeq = s.verdictSeq := rfl

@[simp] theorem State.setNotice_verdictSince (s : State) (p : Port) (n : Notice) :
    (s.setNotice p n).verdictSince = s.verdictSince := rfl

@[simp] theorem State.setNotice_uptime (s : State) (p : Port) (n : Notice) :
    (s.setNotice p n).uptime = s.uptime := rfl

@[simp] theorem State.setNotice_inputs (s : State) (p : Port) (n : Notice) :
    (s.setNotice p n).inputs = s.inputs := rfl

@[simp] theorem State.setNotice_windows (s : State) (p : Port) (n : Notice) :
    (s.setNotice p n).windows = s.windows := rfl

@[simp] theorem State.setNotice_joined (s : State) (p : Port) (n : Notice) :
    (s.setNotice p n).joined = s.joined := rfl

@[simp] theorem State.setNotice_notices (s : State) (p : Port) (n : Notice) :
    (s.setNotice p n).notices = s.notices.set p n := rfl

@[simp] theorem State.setNotice_history (s : State) (p : Port) (n : Notice) :
    (s.setNotice p n).history = s.history := rfl

@[simp] theorem State.setNotice_proposals (s : State) (p : Port) (n : Notice) :
    (s.setNotice p n).proposals = s.proposals := rfl

@[simp] theorem State.setNotice_closingOrder (s : State) (p : Port) (n : Notice) :
    (s.setNotice p n).closingOrder = s.closingOrder := rfl

@[simp] theorem State.setNotice_madeOrder (s : State) (p : Port) (n : Notice) :
    (s.setNotice p n).madeOrder = s.madeOrder := rfl

@[simp] theorem State.setNotice_nextNumber (s : State) (p : Port) (n : Notice) :
    (s.setNotice p n).nextNumber = s.nextNumber := rfl

@[simp] theorem State.setNotice_array (s : State) (p : Port) (n : Notice) :
    (s.setNotice p n).array = s.array := rfl

@[simp] theorem State.setNotice_imageInfo (s : State) (p : Port) (n : Notice) :
    (s.setNotice p n).imageInfo = s.imageInfo := rfl

@[simp] theorem State.setNotice_activeImage (s : State) (p : Port) (n : Notice) :
    (s.setNotice p n).activeImage = s.activeImage := rfl

@[simp] theorem State.setNotice_mode (s : State) (p : Port) (n : Notice) :
    (s.setNotice p n).mode = s.mode := rfl

@[simp] theorem State.setNotice_failures (s : State) (p : Port) (n : Notice) :
    (s.setNotice p n).failures = s.failures := rfl

@[simp] theorem State.setNotice_droppedAtLoad (s : State) (p : Port) (n : Notice) :
    (s.setNotice p n).droppedAtLoad = s.droppedAtLoad := rfl

@[simp] theorem State.setNotice_sinceSave (s : State) (p : Port) (n : Notice) :
    (s.setNotice p n).sinceSave = s.sinceSave := rfl

@[simp] theorem State.setNotice_intervalTimer (s : State) (p : Port) (n : Notice) :
    (s.setNotice p n).intervalTimer = s.intervalTimer := rfl

@[simp] theorem State.setNotice_loadBuilt (s : State) (p : Port) (n : Notice) :
    (s.setNotice p n).loadBuilt = s.loadBuilt := rfl

@[simp] theorem State.setNotice_audit (s : State) (p : Port) (n : Notice) :
    (s.setNotice p n).audit = s.audit := rfl

/-! ### setInput -/

@[simp] theorem State.setInput_pending (s : State) (i : Fin 4) (e : EventInput) :
    (s.setInput i e).pending = s.pending := rfl

@[simp] theorem State.setInput_powered (s : State) (i : Fin 4) (e : EventInput) :
    (s.setInput i e).powered = s.powered := rfl

@[simp] theorem State.setInput_rstAsserted (s : State) (i : Fin 4) (e : EventInput) :
    (s.setInput i e).rstAsserted = s.rstAsserted := rfl

@[simp] theorem State.setInput_pfwAsserted (s : State) (i : Fin 4) (e : EventInput) :
    (s.setInput i e).pfwAsserted = s.pfwAsserted := rfl

@[simp] theorem State.setInput_ports (s : State) (i : Fin 4) (e : EventInput) :
    (s.setInput i e).ports = s.ports := rfl

@[simp] theorem State.setInput_lastGranted (s : State) (i : Fin 4) (e : EventInput) :
    (s.setInput i e).lastGranted = s.lastGranted := rfl

@[simp] theorem State.setInput_table (s : State) (i : Fin 4) (e : EventInput) :
    (s.setInput i e).table = s.table := rfl

@[simp] theorem State.setInput_frozen (s : State) (i : Fin 4) (e : EventInput) :
    (s.setInput i e).frozen = s.frozen := rfl

@[simp] theorem State.setInput_lifetime (s : State) (i : Fin 4) (e : EventInput) :
    (s.setInput i e).lifetime = s.lifetime := rfl

@[simp] theorem State.setInput_autosaveOnWorsen (s : State) (i : Fin 4) (e : EventInput) :
    (s.setInput i e).autosaveOnWorsen = s.autosaveOnWorsen := rfl

@[simp] theorem State.setInput_autosaveInterval (s : State) (i : Fin 4) (e : EventInput) :
    (s.setInput i e).autosaveInterval = s.autosaveInterval := rfl

@[simp] theorem State.setInput_settingsUnsaved (s : State) (i : Fin 4) (e : EventInput) :
    (s.setInput i e).settingsUnsaved = s.settingsUnsaved := rfl

@[simp] theorem State.setInput_verdict (s : State) (i : Fin 4) (e : EventInput) :
    (s.setInput i e).verdict = s.verdict := rfl

@[simp] theorem State.setInput_verdictSeq (s : State) (i : Fin 4) (e : EventInput) :
    (s.setInput i e).verdictSeq = s.verdictSeq := rfl

@[simp] theorem State.setInput_verdictSince (s : State) (i : Fin 4) (e : EventInput) :
    (s.setInput i e).verdictSince = s.verdictSince := rfl

@[simp] theorem State.setInput_uptime (s : State) (i : Fin 4) (e : EventInput) :
    (s.setInput i e).uptime = s.uptime := rfl

@[simp] theorem State.setInput_inputs (s : State) (i : Fin 4) (e : EventInput) :
    (s.setInput i e).inputs = s.inputs.set i e := rfl

@[simp] theorem State.setInput_windows (s : State) (i : Fin 4) (e : EventInput) :
    (s.setInput i e).windows = s.windows := rfl

@[simp] theorem State.setInput_joined (s : State) (i : Fin 4) (e : EventInput) :
    (s.setInput i e).joined = s.joined := rfl

@[simp] theorem State.setInput_notices (s : State) (i : Fin 4) (e : EventInput) :
    (s.setInput i e).notices = s.notices := rfl

@[simp] theorem State.setInput_history (s : State) (i : Fin 4) (e : EventInput) :
    (s.setInput i e).history = s.history := rfl

@[simp] theorem State.setInput_proposals (s : State) (i : Fin 4) (e : EventInput) :
    (s.setInput i e).proposals = s.proposals := rfl

@[simp] theorem State.setInput_closingOrder (s : State) (i : Fin 4) (e : EventInput) :
    (s.setInput i e).closingOrder = s.closingOrder := rfl

@[simp] theorem State.setInput_madeOrder (s : State) (i : Fin 4) (e : EventInput) :
    (s.setInput i e).madeOrder = s.madeOrder := rfl

@[simp] theorem State.setInput_nextNumber (s : State) (i : Fin 4) (e : EventInput) :
    (s.setInput i e).nextNumber = s.nextNumber := rfl

@[simp] theorem State.setInput_array (s : State) (i : Fin 4) (e : EventInput) :
    (s.setInput i e).array = s.array := rfl

@[simp] theorem State.setInput_imageInfo (s : State) (i : Fin 4) (e : EventInput) :
    (s.setInput i e).imageInfo = s.imageInfo := rfl

@[simp] theorem State.setInput_activeImage (s : State) (i : Fin 4) (e : EventInput) :
    (s.setInput i e).activeImage = s.activeImage := rfl

@[simp] theorem State.setInput_mode (s : State) (i : Fin 4) (e : EventInput) :
    (s.setInput i e).mode = s.mode := rfl

@[simp] theorem State.setInput_failures (s : State) (i : Fin 4) (e : EventInput) :
    (s.setInput i e).failures = s.failures := rfl

@[simp] theorem State.setInput_droppedAtLoad (s : State) (i : Fin 4) (e : EventInput) :
    (s.setInput i e).droppedAtLoad = s.droppedAtLoad := rfl

@[simp] theorem State.setInput_sinceSave (s : State) (i : Fin 4) (e : EventInput) :
    (s.setInput i e).sinceSave = s.sinceSave := rfl

@[simp] theorem State.setInput_intervalTimer (s : State) (i : Fin 4) (e : EventInput) :
    (s.setInput i e).intervalTimer = s.intervalTimer := rfl

@[simp] theorem State.setInput_loadBuilt (s : State) (i : Fin 4) (e : EventInput) :
    (s.setInput i e).loadBuilt = s.loadBuilt := rfl

@[simp] theorem State.setInput_audit (s : State) (i : Fin 4) (e : EventInput) :
    (s.setInput i e).audit = s.audit := rfl

/-! ### setCounter -/

@[simp] theorem State.setCounter_pending (s : State) (w : Fin 8) (c : Counter) :
    (s.setCounter w c).pending = s.pending := rfl

@[simp] theorem State.setCounter_powered (s : State) (w : Fin 8) (c : Counter) :
    (s.setCounter w c).powered = s.powered := rfl

@[simp] theorem State.setCounter_rstAsserted (s : State) (w : Fin 8) (c : Counter) :
    (s.setCounter w c).rstAsserted = s.rstAsserted := rfl

@[simp] theorem State.setCounter_pfwAsserted (s : State) (w : Fin 8) (c : Counter) :
    (s.setCounter w c).pfwAsserted = s.pfwAsserted := rfl

@[simp] theorem State.setCounter_ports (s : State) (w : Fin 8) (c : Counter) :
    (s.setCounter w c).ports = s.ports := rfl

@[simp] theorem State.setCounter_lastGranted (s : State) (w : Fin 8) (c : Counter) :
    (s.setCounter w c).lastGranted = s.lastGranted := rfl

@[simp] theorem State.setCounter_table (s : State) (w : Fin 8) (c : Counter) :
    (s.setCounter w c).table = s.table := rfl

@[simp] theorem State.setCounter_frozen (s : State) (w : Fin 8) (c : Counter) :
    (s.setCounter w c).frozen = s.frozen := rfl

@[simp] theorem State.setCounter_lifetime (s : State) (w : Fin 8) (c : Counter) :
    (s.setCounter w c).lifetime = s.lifetime := rfl

@[simp] theorem State.setCounter_autosaveOnWorsen (s : State) (w : Fin 8) (c : Counter) :
    (s.setCounter w c).autosaveOnWorsen = s.autosaveOnWorsen := rfl

@[simp] theorem State.setCounter_autosaveInterval (s : State) (w : Fin 8) (c : Counter) :
    (s.setCounter w c).autosaveInterval = s.autosaveInterval := rfl

@[simp] theorem State.setCounter_settingsUnsaved (s : State) (w : Fin 8) (c : Counter) :
    (s.setCounter w c).settingsUnsaved = s.settingsUnsaved := rfl

@[simp] theorem State.setCounter_verdict (s : State) (w : Fin 8) (c : Counter) :
    (s.setCounter w c).verdict = s.verdict := rfl

@[simp] theorem State.setCounter_verdictSeq (s : State) (w : Fin 8) (c : Counter) :
    (s.setCounter w c).verdictSeq = s.verdictSeq := rfl

@[simp] theorem State.setCounter_verdictSince (s : State) (w : Fin 8) (c : Counter) :
    (s.setCounter w c).verdictSince = s.verdictSince := rfl

@[simp] theorem State.setCounter_uptime (s : State) (w : Fin 8) (c : Counter) :
    (s.setCounter w c).uptime = s.uptime := rfl

@[simp] theorem State.setCounter_inputs (s : State) (w : Fin 8) (c : Counter) :
    (s.setCounter w c).inputs = s.inputs := rfl

@[simp] theorem State.setCounter_windows (s : State) (w : Fin 8) (c : Counter) :
    (s.setCounter w c).windows = s.windows.set w c := rfl

@[simp] theorem State.setCounter_joined (s : State) (w : Fin 8) (c : Counter) :
    (s.setCounter w c).joined = s.joined := rfl

@[simp] theorem State.setCounter_notices (s : State) (w : Fin 8) (c : Counter) :
    (s.setCounter w c).notices = s.notices := rfl

@[simp] theorem State.setCounter_history (s : State) (w : Fin 8) (c : Counter) :
    (s.setCounter w c).history = s.history := rfl

@[simp] theorem State.setCounter_proposals (s : State) (w : Fin 8) (c : Counter) :
    (s.setCounter w c).proposals = s.proposals := rfl

@[simp] theorem State.setCounter_closingOrder (s : State) (w : Fin 8) (c : Counter) :
    (s.setCounter w c).closingOrder = s.closingOrder := rfl

@[simp] theorem State.setCounter_madeOrder (s : State) (w : Fin 8) (c : Counter) :
    (s.setCounter w c).madeOrder = s.madeOrder := rfl

@[simp] theorem State.setCounter_nextNumber (s : State) (w : Fin 8) (c : Counter) :
    (s.setCounter w c).nextNumber = s.nextNumber := rfl

@[simp] theorem State.setCounter_array (s : State) (w : Fin 8) (c : Counter) :
    (s.setCounter w c).array = s.array := rfl

@[simp] theorem State.setCounter_imageInfo (s : State) (w : Fin 8) (c : Counter) :
    (s.setCounter w c).imageInfo = s.imageInfo := rfl

@[simp] theorem State.setCounter_activeImage (s : State) (w : Fin 8) (c : Counter) :
    (s.setCounter w c).activeImage = s.activeImage := rfl

@[simp] theorem State.setCounter_mode (s : State) (w : Fin 8) (c : Counter) :
    (s.setCounter w c).mode = s.mode := rfl

@[simp] theorem State.setCounter_failures (s : State) (w : Fin 8) (c : Counter) :
    (s.setCounter w c).failures = s.failures := rfl

@[simp] theorem State.setCounter_droppedAtLoad (s : State) (w : Fin 8) (c : Counter) :
    (s.setCounter w c).droppedAtLoad = s.droppedAtLoad := rfl

@[simp] theorem State.setCounter_sinceSave (s : State) (w : Fin 8) (c : Counter) :
    (s.setCounter w c).sinceSave = s.sinceSave := rfl

@[simp] theorem State.setCounter_intervalTimer (s : State) (w : Fin 8) (c : Counter) :
    (s.setCounter w c).intervalTimer = s.intervalTimer := rfl

@[simp] theorem State.setCounter_loadBuilt (s : State) (w : Fin 8) (c : Counter) :
    (s.setCounter w c).loadBuilt = s.loadBuilt := rfl

@[simp] theorem State.setCounter_audit (s : State) (w : Fin 8) (c : Counter) :
    (s.setCounter w c).audit = s.audit := rfl

/-! ### setProposal -/

@[simp] theorem State.setProposal_pending (s : State) (k : Fin 4) (x : Option Proposal) :
    (s.setProposal k x).pending = s.pending := rfl

@[simp] theorem State.setProposal_powered (s : State) (k : Fin 4) (x : Option Proposal) :
    (s.setProposal k x).powered = s.powered := rfl

@[simp] theorem State.setProposal_rstAsserted (s : State) (k : Fin 4) (x : Option Proposal) :
    (s.setProposal k x).rstAsserted = s.rstAsserted := rfl

@[simp] theorem State.setProposal_pfwAsserted (s : State) (k : Fin 4) (x : Option Proposal) :
    (s.setProposal k x).pfwAsserted = s.pfwAsserted := rfl

@[simp] theorem State.setProposal_ports (s : State) (k : Fin 4) (x : Option Proposal) :
    (s.setProposal k x).ports = s.ports := rfl

@[simp] theorem State.setProposal_lastGranted (s : State) (k : Fin 4) (x : Option Proposal) :
    (s.setProposal k x).lastGranted = s.lastGranted := rfl

@[simp] theorem State.setProposal_table (s : State) (k : Fin 4) (x : Option Proposal) :
    (s.setProposal k x).table = s.table := rfl

@[simp] theorem State.setProposal_frozen (s : State) (k : Fin 4) (x : Option Proposal) :
    (s.setProposal k x).frozen = s.frozen := rfl

@[simp] theorem State.setProposal_lifetime (s : State) (k : Fin 4) (x : Option Proposal) :
    (s.setProposal k x).lifetime = s.lifetime := rfl

@[simp] theorem State.setProposal_autosaveOnWorsen (s : State) (k : Fin 4) (x : Option Proposal) :
    (s.setProposal k x).autosaveOnWorsen = s.autosaveOnWorsen := rfl

@[simp] theorem State.setProposal_autosaveInterval (s : State) (k : Fin 4) (x : Option Proposal) :
    (s.setProposal k x).autosaveInterval = s.autosaveInterval := rfl

@[simp] theorem State.setProposal_settingsUnsaved (s : State) (k : Fin 4) (x : Option Proposal) :
    (s.setProposal k x).settingsUnsaved = s.settingsUnsaved := rfl

@[simp] theorem State.setProposal_verdict (s : State) (k : Fin 4) (x : Option Proposal) :
    (s.setProposal k x).verdict = s.verdict := rfl

@[simp] theorem State.setProposal_verdictSeq (s : State) (k : Fin 4) (x : Option Proposal) :
    (s.setProposal k x).verdictSeq = s.verdictSeq := rfl

@[simp] theorem State.setProposal_verdictSince (s : State) (k : Fin 4) (x : Option Proposal) :
    (s.setProposal k x).verdictSince = s.verdictSince := rfl

@[simp] theorem State.setProposal_uptime (s : State) (k : Fin 4) (x : Option Proposal) :
    (s.setProposal k x).uptime = s.uptime := rfl

@[simp] theorem State.setProposal_inputs (s : State) (k : Fin 4) (x : Option Proposal) :
    (s.setProposal k x).inputs = s.inputs := rfl

@[simp] theorem State.setProposal_windows (s : State) (k : Fin 4) (x : Option Proposal) :
    (s.setProposal k x).windows = s.windows := rfl

@[simp] theorem State.setProposal_joined (s : State) (k : Fin 4) (x : Option Proposal) :
    (s.setProposal k x).joined = s.joined := rfl

@[simp] theorem State.setProposal_notices (s : State) (k : Fin 4) (x : Option Proposal) :
    (s.setProposal k x).notices = s.notices := rfl

@[simp] theorem State.setProposal_history (s : State) (k : Fin 4) (x : Option Proposal) :
    (s.setProposal k x).history = s.history := rfl

@[simp] theorem State.setProposal_proposals (s : State) (k : Fin 4) (x : Option Proposal) :
    (s.setProposal k x).proposals = s.proposals.set k x := rfl

@[simp] theorem State.setProposal_closingOrder (s : State) (k : Fin 4) (x : Option Proposal) :
    (s.setProposal k x).closingOrder = s.closingOrder := rfl

@[simp] theorem State.setProposal_madeOrder (s : State) (k : Fin 4) (x : Option Proposal) :
    (s.setProposal k x).madeOrder = s.madeOrder := rfl

@[simp] theorem State.setProposal_nextNumber (s : State) (k : Fin 4) (x : Option Proposal) :
    (s.setProposal k x).nextNumber = s.nextNumber := rfl

@[simp] theorem State.setProposal_array (s : State) (k : Fin 4) (x : Option Proposal) :
    (s.setProposal k x).array = s.array := rfl

@[simp] theorem State.setProposal_imageInfo (s : State) (k : Fin 4) (x : Option Proposal) :
    (s.setProposal k x).imageInfo = s.imageInfo := rfl

@[simp] theorem State.setProposal_activeImage (s : State) (k : Fin 4) (x : Option Proposal) :
    (s.setProposal k x).activeImage = s.activeImage := rfl

@[simp] theorem State.setProposal_mode (s : State) (k : Fin 4) (x : Option Proposal) :
    (s.setProposal k x).mode = s.mode := rfl

@[simp] theorem State.setProposal_failures (s : State) (k : Fin 4) (x : Option Proposal) :
    (s.setProposal k x).failures = s.failures := rfl

@[simp] theorem State.setProposal_droppedAtLoad (s : State) (k : Fin 4) (x : Option Proposal) :
    (s.setProposal k x).droppedAtLoad = s.droppedAtLoad := rfl

@[simp] theorem State.setProposal_sinceSave (s : State) (k : Fin 4) (x : Option Proposal) :
    (s.setProposal k x).sinceSave = s.sinceSave := rfl

@[simp] theorem State.setProposal_intervalTimer (s : State) (k : Fin 4) (x : Option Proposal) :
    (s.setProposal k x).intervalTimer = s.intervalTimer := rfl

@[simp] theorem State.setProposal_loadBuilt (s : State) (k : Fin 4) (x : Option Proposal) :
    (s.setProposal k x).loadBuilt = s.loadBuilt := rfl

@[simp] theorem State.setProposal_audit (s : State) (k : Fin 4) (x : Option Proposal) :
    (s.setProposal k x).audit = s.audit := rfl

/-! ## Reading back -/

@[simp] theorem State.slot_setPort (s : State) (p q : Port) (u : PortUnit) :
    (s.setPort p u).slot q = if q = p then u.slot else s.slot q := by cases p <;> cases q <;> rfl

@[simp] theorem State.slot_setSlot (s : State) (p q : Port) (x : Slot) :
    (s.setSlot p x).slot q = if q = p then x else s.slot q := by cases p <;> cases q <;> rfl

end Sys2Proof.Machine
end

