-- ==== Sys2Proof/Laws/Ops.lean ====
section
/-! SUPPORT. One lemma for each shared operation: all it can do. Later proofs cite these and do not unfold it. -/

namespace Sys2Proof.Machine

/-! ## Grant and answer -/

@[simp] theorem State.grant_pending (s : State) (p : Port) : (s.grant p).pending = s.pending := rfl

@[simp] theorem State.grant_powered (s : State) (p : Port) : (s.grant p).powered = s.powered := rfl

@[simp] theorem State.grant_rstAsserted (s : State) (p : Port) : (s.grant p).rstAsserted = s.rstAsserted := rfl

@[simp] theorem State.grant_pfwAsserted (s : State) (p : Port) : (s.grant p).pfwAsserted = s.pfwAsserted := rfl

@[simp] theorem State.grant_ports (s : State) (p : Port) : (s.grant p).ports = s.ports.set p { s.ports.get p with slot := { s.slot p with state := .running } } := rfl

@[simp] theorem State.grant_lastGranted (s : State) (p : Port) : (s.grant p).lastGranted = some p := rfl

@[simp] theorem State.grant_table (s : State) (p : Port) : (s.grant p).table = s.table := rfl

@[simp] theorem State.grant_frozen (s : State) (p : Port) : (s.grant p).frozen = s.frozen := rfl

@[simp] theorem State.grant_lifetime (s : State) (p : Port) : (s.grant p).lifetime = s.lifetime := rfl

@[simp] theorem State.grant_autosaveOnWorsen (s : State) (p : Port) : (s.grant p).autosaveOnWorsen = s.autosaveOnWorsen := rfl

@[simp] theorem State.grant_autosaveInterval (s : State) (p : Port) : (s.grant p).autosaveInterval = s.autosaveInterval := rfl

@[simp] theorem State.grant_settingsUnsaved (s : State) (p : Port) : (s.grant p).settingsUnsaved = s.settingsUnsaved := rfl

@[simp] theorem State.grant_verdict (s : State) (p : Port) : (s.grant p).verdict = s.verdict := rfl

@[simp] theorem State.grant_verdictSeq (s : State) (p : Port) : (s.grant p).verdictSeq = s.verdictSeq := rfl

@[simp] theorem State.grant_verdictSince (s : State) (p : Port) : (s.grant p).verdictSince = s.verdictSince := rfl

@[simp] theorem State.grant_uptime (s : State) (p : Port) : (s.grant p).uptime = s.uptime := rfl

@[simp] theorem State.grant_inputs (s : State) (p : Port) : (s.grant p).inputs = s.inputs := rfl

@[simp] theorem State.grant_windows (s : State) (p : Port) : (s.grant p).windows = s.windows := rfl

@[simp] theorem State.grant_joined (s : State) (p : Port) : (s.grant p).joined = s.joined := rfl

@[simp] theorem State.grant_notices (s : State) (p : Port) : (s.grant p).notices = s.notices := rfl

@[simp] theorem State.grant_history (s : State) (p : Port) : (s.grant p).history = s.history := rfl

@[simp] theorem State.grant_proposals (s : State) (p : Port) : (s.grant p).proposals = s.proposals := rfl

@[simp] theorem State.grant_closingOrder (s : State) (p : Port) : (s.grant p).closingOrder = s.closingOrder := rfl

@[simp] theorem State.grant_madeOrder (s : State) (p : Port) : (s.grant p).madeOrder = s.madeOrder := rfl

@[simp] theorem State.grant_nextNumber (s : State) (p : Port) : (s.grant p).nextNumber = s.nextNumber := rfl

@[simp] theorem State.grant_array (s : State) (p : Port) : (s.grant p).array = s.array := rfl

@[simp] theorem State.grant_imageInfo (s : State) (p : Port) : (s.grant p).imageInfo = s.imageInfo := rfl

@[simp] theorem State.grant_activeImage (s : State) (p : Port) : (s.grant p).activeImage = s.activeImage := rfl

@[simp] theorem State.grant_mode (s : State) (p : Port) : (s.grant p).mode = s.mode := rfl

@[simp] theorem State.grant_failures (s : State) (p : Port) : (s.grant p).failures = s.failures := rfl

@[simp] theorem State.grant_droppedAtLoad (s : State) (p : Port) : (s.grant p).droppedAtLoad = s.droppedAtLoad := rfl

@[simp] theorem State.grant_sinceSave (s : State) (p : Port) : (s.grant p).sinceSave = s.sinceSave := rfl

@[simp] theorem State.grant_intervalTimer (s : State) (p : Port) : (s.grant p).intervalTimer = s.intervalTimer := rfl

@[simp] theorem State.grant_loadBuilt (s : State) (p : Port) : (s.grant p).loadBuilt = s.loadBuilt := rfl

@[simp] theorem State.grant_audit (s : State) (p : Port) : (s.grant p).audit = s.audit := rfl

@[simp] theorem State.answered_pending (s : State) (p : Port) (a : Answer) : (s.answered p a).pending = s.pending := rfl

@[simp] theorem State.answered_powered (s : State) (p : Port) (a : Answer) : (s.answered p a).powered = s.powered := rfl

@[simp] theorem State.answered_rstAsserted (s : State) (p : Port) (a : Answer) : (s.answered p a).rstAsserted = s.rstAsserted := rfl

@[simp] theorem State.answered_pfwAsserted (s : State) (p : Port) (a : Answer) : (s.answered p a).pfwAsserted = s.pfwAsserted := rfl

@[simp] theorem State.answered_ports (s : State) (p : Port) (a : Answer) : (s.answered p a).ports = s.ports.set p { s.ports.get p with slot := (s.slot p).answered a } := rfl

@[simp] theorem State.answered_lastGranted (s : State) (p : Port) (a : Answer) : (s.answered p a).lastGranted = some p := rfl

@[simp] theorem State.answered_table (s : State) (p : Port) (a : Answer) : (s.answered p a).table = s.table := rfl

@[simp] theorem State.answered_frozen (s : State) (p : Port) (a : Answer) : (s.answered p a).frozen = s.frozen := rfl

@[simp] theorem State.answered_lifetime (s : State) (p : Port) (a : Answer) : (s.answered p a).lifetime = s.lifetime := rfl

@[simp] theorem State.answered_autosaveOnWorsen (s : State) (p : Port) (a : Answer) : (s.answered p a).autosaveOnWorsen = s.autosaveOnWorsen := rfl

@[simp] theorem State.answered_autosaveInterval (s : State) (p : Port) (a : Answer) : (s.answered p a).autosaveInterval = s.autosaveInterval := rfl

@[simp] theorem State.answered_settingsUnsaved (s : State) (p : Port) (a : Answer) : (s.answered p a).settingsUnsaved = s.settingsUnsaved := rfl

@[simp] theorem State.answered_verdict (s : State) (p : Port) (a : Answer) : (s.answered p a).verdict = s.verdict := rfl

@[simp] theorem State.answered_verdictSeq (s : State) (p : Port) (a : Answer) : (s.answered p a).verdictSeq = s.verdictSeq := rfl

@[simp] theorem State.answered_verdictSince (s : State) (p : Port) (a : Answer) : (s.answered p a).verdictSince = s.verdictSince := rfl

@[simp] theorem State.answered_uptime (s : State) (p : Port) (a : Answer) : (s.answered p a).uptime = s.uptime := rfl

@[simp] theorem State.answered_inputs (s : State) (p : Port) (a : Answer) : (s.answered p a).inputs = s.inputs := rfl

@[simp] theorem State.answered_windows (s : State) (p : Port) (a : Answer) : (s.answered p a).windows = s.windows := rfl

@[simp] theorem State.answered_joined (s : State) (p : Port) (a : Answer) : (s.answered p a).joined = s.joined := rfl

@[simp] theorem State.answered_notices (s : State) (p : Port) (a : Answer) : (s.answered p a).notices = s.notices := rfl

@[simp] theorem State.answered_history (s : State) (p : Port) (a : Answer) : (s.answered p a).history = s.history := rfl

@[simp] theorem State.answered_proposals (s : State) (p : Port) (a : Answer) : (s.answered p a).proposals = s.proposals := rfl

@[simp] theorem State.answered_closingOrder (s : State) (p : Port) (a : Answer) : (s.answered p a).closingOrder = s.closingOrder := rfl

@[simp] theorem State.answered_madeOrder (s : State) (p : Port) (a : Answer) : (s.answered p a).madeOrder = s.madeOrder := rfl

@[simp] theorem State.answered_nextNumber (s : State) (p : Port) (a : Answer) : (s.answered p a).nextNumber = s.nextNumber := rfl

@[simp] theorem State.answered_array (s : State) (p : Port) (a : Answer) : (s.answered p a).array = s.array := rfl

@[simp] theorem State.answered_imageInfo (s : State) (p : Port) (a : Answer) : (s.answered p a).imageInfo = s.imageInfo := rfl

@[simp] theorem State.answered_activeImage (s : State) (p : Port) (a : Answer) : (s.answered p a).activeImage = s.activeImage := rfl

@[simp] theorem State.answered_mode (s : State) (p : Port) (a : Answer) : (s.answered p a).mode = s.mode := rfl

@[simp] theorem State.answered_failures (s : State) (p : Port) (a : Answer) : (s.answered p a).failures = s.failures := rfl

@[simp] theorem State.answered_droppedAtLoad (s : State) (p : Port) (a : Answer) : (s.answered p a).droppedAtLoad = s.droppedAtLoad := rfl

@[simp] theorem State.answered_sinceSave (s : State) (p : Port) (a : Answer) : (s.answered p a).sinceSave = s.sinceSave := rfl

@[simp] theorem State.answered_intervalTimer (s : State) (p : Port) (a : Answer) : (s.answered p a).intervalTimer = s.intervalTimer := rfl

@[simp] theorem State.answered_loadBuilt (s : State) (p : Port) (a : Answer) : (s.answered p a).loadBuilt = s.loadBuilt := rfl

@[simp] theorem State.answered_audit (s : State) (p : Port) (a : Answer) : (s.answered p a).audit = s.audit := rfl

@[simp] theorem State.slot_grant (s : State) (p : Port) :
    (s.grant p).slot p = { s.slot p with state := .running } := by cases p <;> rfl

/-- The port the arbiter grants holds a WAITING slot. -/
theorem State.waiting_of_nextGrant {s : State} {p : Port} (h : s.nextGrant = some p) :
    (s.slot p).state = .waiting := by
  have := List.find?_some h
  simpa using this

/-- The answer placed in the slot just granted. -/
theorem State.placeAnswer_grant (s : State) (p : Port) (a : Answer) :
    (s.grant p).placeAnswer p a = s.answered p a := by
  simp only [State.placeAnswer, State.slot_grant, if_true]
  cases p <;> rfl

/-- An answer is placed in a RUNNING slot, and nowhere else. -/
theorem State.placeAnswer_cases (s : State) (p : Port) (a : Answer) :
    ((s.slot p).state = .running ∧ s.placeAnswer p a = s.setSlot p { s.slot p with state := .done, response := some a })
      ∨ ((s.slot p).state ≠ .running ∧ s.placeAnswer p a = s) := by
  by_cases h : (s.slot p).state = .running <;> simp [State.placeAnswer, h]

/-- Placing an answer moves slots alone. -/
theorem State.placeAnswer_ports (s : State) (p : Port) (a : Answer) :
    s.placeAnswer p a = { s with ports := (s.placeAnswer p a).ports } := by
  rcases s.placeAnswer_cases p a with ⟨-, h⟩ | ⟨-, h⟩
  · rw [h]; rfl
  · rw [h]

/-- Placing answers moves slots alone. -/
theorem State.placeAnswers_ports (s : State) (who : PortSet) (a : Answer) :
    s.placeAnswers who a = { s with ports := (s.placeAnswers who a).ports } := by
  suffices h : ∀ (l : List Port) (t : State), t = { s with ports := t.ports } →
      (l.foldl (fun t p => if who.get p then t.placeAnswer p a else t) t) =
        { s with ports := (l.foldl (fun t p => if who.get p then t.placeAnswer p a else t) t).ports } by
    exact h allPorts s rfl
  intro l
  induction l with
  | nil => intro t ht; exact ht
  | cons p l ih =>
    intro t ht
    refine ih _ ?_
    by_cases hp : who.get p = true
    · simp only [hp, if_true]
      exact (t.placeAnswer_ports p a).trans
        (congrArg (fun u : State => { u with ports := (t.placeAnswer p a).ports }) ht)
    · simp only [hp, Bool.false_eq_true, if_false]
      exact ht

/-- A granted command can be taken. -/
theorem State.canTake_of_granted {s : State} {p : Port} {code : Byte} {ps : List Byte} (h : s.Granted p code ps)
    {test : Byte → Bool} (ht : test code = true) : s.canTake p test = true := by
  simp [State.canTake, h.ready, h.next, h.code, ht]

/-- A granted command is run on its parameters and answered. -/
theorem State.takeCommand_of_granted {s : State} {p : Port} {code : Byte} {ps : List Byte} (h : s.Granted p code ps)
    {test : Byte → Bool} (ht : test code = true) (request : List Byte → State → State × Answer) :
    s.takeCommand p test request = (request ps (s.grant p)).1.placeAnswer p (request ps (s.grant p)).2 := by
  simp only [State.takeCommand, State.canTake_of_granted h ht, if_true, h.params]

/-- A command that cannot be granted is not taken. -/
theorem State.takeCommand_of_not {s : State} {p : Port} {test : Byte → Bool} (h : s.canTake p test = false)
    (request : List Byte → State → State × Answer) : s.takeCommand p test request = s := by
  simp [State.takeCommand, h]

/-- A granted command that leaves the state as it is is answered, and nothing else moves. -/
theorem State.takeCommand_answer {s : State} {p : Port} {code : Byte} {ps : List Byte} (h : s.Granted p code ps)
    {test : Byte → Bool} (ht : test code = true) {request : List Byte → State → State × Answer} {a : Answer}
    (hr : request ps (s.grant p) = (s.grant p, a)) : s.takeCommand p test request = s.answered p a := by
  rw [State.takeCommand_of_granted h ht, hr]
  exact s.placeAnswer_grant p a

/-! ## Range check and proposals -/

/-- A parameter block that fails its range check is refused, and nothing else moves. -/
theorem State.direct_bad {α : Type} (s : State) (ident : List Byte → List Byte) (parse : List Byte → Option α)
    (apply : α → State → State × Answer) {ps : List Byte} (h : parse ps = none) :
    s.direct ident parse apply ps = (s, refuse .badParam (ident ps)) := by simp [State.direct, h]

theorem State.direct_ok {α : Type} (s : State) (ident : List Byte → List Byte) (parse : List Byte → Option α)
    (apply : α → State → State × Answer) {ps : List Byte} {x : α} (h : parse ps = some x) :
    s.direct ident parse apply ps = apply x s := by simp [State.direct, h]

theorem State.structural_bad {α : Type} (s : State) (p : Port) (code : StructuralCode) (ident : List Byte → List Byte)
    (parse : List Byte → Option α) (apply : α → State → State × Answer) {ps : List Byte} (h : parse ps = none) :
    s.structural p code ident parse apply ps = (s, refuse .badParam (ident ps)) := by simp [State.structural, h]

theorem State.structural_unfrozen {α : Type} (s : State) (p : Port) (code : StructuralCode)
    (ident : List Byte → List Byte) (parse : List Byte → Option α) (apply : α → State → State × Answer)
    {ps : List Byte} {x : α} (h : parse ps = some x) (hf : s.frozen = false) :
    s.structural p code ident parse apply ps = apply x s := by simp [State.structural, h, hf]

theorem State.structural_frozen {α : Type} (s : State) (p : Port) (code : StructuralCode)
    (ident : List Byte → List Byte) (parse : List Byte → Option α) (apply : α → State → State × Answer)
    {ps : List Byte} {x : α} (h : parse ps = some x) (hf : s.frozen = true) :
    s.structural p code ident parse apply ps = s.makeProposal p code ps := by simp [State.structural, h, hf]

/-! ## Saves and the verdict -/

/-- What a save request does: a save starts (after the abort of a running sweep), it joins the pending save, or it is
dropped. -/
theorem State.requestSave_cases (s : State) (c : Causes) :
    s.requestSave c = s
      ∨ (s.mode = .idle ∧ s.requestSave c = s.startSave .none c)
      ∨ (s.mode = .auditing ∧ s.requestSave c = (s.abortAudit .abortedBySave).startSave .none c)
      ∨ ∃ sv w, s.mode = .saving sv w ∧
          s.requestSave c = { s with mode := .saving sv (some (joinPending w .none c)) } := by
  unfold State.requestSave
  split
  · exact .inl rfl
  · split
    · exact .inr (.inl ⟨‹_›, rfl⟩)
    · exact .inr (.inr (.inl ⟨‹_›, rfl⟩))
    · exact .inr (.inr (.inr ⟨_, _, ‹_›, rfl⟩))
    all_goals exact .inl rfl

/-- A save request moves the retention unit alone. -/
theorem State.requestSave_frame (s : State) (c : Causes) :
    s.requestSave c = { s with mode := (s.requestSave c).mode, imageInfo := (s.requestSave c).imageInfo,
                               audit := (s.requestSave c).audit } := by
  rcases s.requestSave_cases c with h | ⟨-, h⟩ | ⟨-, h⟩ | ⟨_, _, -, h⟩ <;> rw [h] <;> rfl

/-- What the recomputation does: nothing, one verdict change, or one verdict change with a WORSEN save request. -/
theorem State.recompute_cases (s : State) (c : Cause) :
    (deriveVerdict s.table = s.verdict ∧ s.recompute c = s)
      ∨ (deriveVerdict s.table ≠ s.verdict ∧ (worsens s.verdict (deriveVerdict s.table) && s.autosaveOnWorsen) = false
          ∧ s.recompute c = s.changeVerdict (deriveVerdict s.table) c)
      ∨ (deriveVerdict s.table ≠ s.verdict ∧ (worsens s.verdict (deriveVerdict s.table) && s.autosaveOnWorsen) = true
          ∧ s.recompute c = (s.changeVerdict (deriveVerdict s.table) c).requestSave .ofWorsen) := by
  unfold State.recompute
  by_cases h : deriveVerdict s.table = s.verdict
  · exact .inl ⟨h, by simp [h]⟩
  · cases hw : worsens s.verdict (deriveVerdict s.table) && s.autosaveOnWorsen
    · exact .inr (.inl ⟨h, rfl, by simp [h, hw]⟩)
    · exact .inr (.inr ⟨h, rfl, by simp [h, hw]⟩)

/-- The recomputation moves the verdict, the notice unit and the retention unit alone. -/
theorem State.recompute_frame (s : State) (c : Cause) :
    s.recompute c =
      { s with verdict := (s.recompute c).verdict, verdictSeq := (s.recompute c).verdictSeq,
               verdictSince := (s.recompute c).verdictSince, notices := (s.recompute c).notices,
               history := (s.recompute c).history, mode := (s.recompute c).mode,
               imageInfo := (s.recompute c).imageInfo, audit := (s.recompute c).audit } := by
  rcases s.recompute_cases c with ⟨-, h⟩ | ⟨-, -, h⟩ | ⟨-, -, h⟩
  · rw [h]
  · rw [h]; rfl
  · rw [h, State.requestSave_frame]; rfl

/-- After the recomputation the verdict is the one the table gives. -/
theorem State.recompute_verdict (s : State) (c : Cause) : (s.recompute c).verdict = deriveVerdict s.table := by
  rcases s.recompute_cases c with ⟨h, e⟩ | ⟨-, -, e⟩ | ⟨-, -, e⟩
  · rw [e, h]
  · rw [e]; rfl
  · rw [e, State.requestSave_frame]; rfl

/-- A definition change aborts a running sweep, and does nothing else. -/
theorem State.definitionChange_cases (s : State) :
    (s.mode = .auditing ∧ s.definitionChange = s.abortAudit .abortedByChange)
      ∨ (s.mode ≠ .auditing ∧ s.definitionChange = s) := by
  unfold State.definitionChange
  cases h : s.mode <;> simp

/-! ## Effects that do not look at the slots -/

/-- An effect that neither reads nor writes slots and the arbiter. -/
def State.Blind (f : State → State) : Prop :=
  ∀ s x g, f { s with ports := x, lastGranted := g } = { f s with ports := x, lastGranted := g }

theorem State.Blind.comp {f g : State → State} (hf : State.Blind f) (hg : State.Blind g) :
    State.Blind (fun s => f (g s)) := fun s x y => by
  show f (g _) = _
  rw [hg, hf]

theorem State.blind_requestSave (c : Causes) : State.Blind (fun s => s.requestSave c) := by
  rintro ⟨_, _, _, pfw, _, _, _, _, _, _, _, _, _, _, _, _, _, _, _, _, _, _, _, _, _, _, _, _, mode, _, _, _, _, _, _⟩ x g
  cases pfw
  · cases mode <;> rfl
  · rfl

theorem State.blind_recompute (c : Cause) : State.Blind (fun s => s.recompute c) := by
  intro s x g
  show (if deriveVerdict s.table = s.verdict then _ else _) = _
  simp only [State.recompute]
  by_cases h : deriveVerdict s.table = s.verdict
  · simp only [h, if_true]
  · simp only [h, if_false]
    cases worsens s.verdict (deriveVerdict s.table) && s.autosaveOnWorsen
    · rfl
    · exact State.blind_requestSave .ofWorsen (s.changeVerdict (deriveVerdict s.table) c) x g

theorem State.blind_definitionChange : State.Blind State.definitionChange := by
  rintro ⟨_, _, _, _, _, _, _, _, _, _, _, _, _, _, _, _, _, _, _, _, _, _, _, _, _, _, _, _, mode, _, _, _, _, _, _⟩ x g
  cases mode <;> rfl

theorem State.blind_written (id : Byte) (f : Entry → Entry) : State.Blind (fun s => s.written id f) := fun _ _ _ => rfl

theorem State.blind_writeEntries (f : Entry → Option Entry) : State.Blind (fun s => s.writeEntries f) :=
  fun _ _ _ => rfl

theorem State.blind_markSettings : State.Blind State.markSettings := fun _ _ _ => rfl

/-- A granted command whose request has a blind effect and a fixed answer has that effect on the state it finds, and is
answered. -/
theorem State.takeCommand_effect {s : State} {p : Port} {code : Byte} {ps : List Byte} (h : s.Granted p code ps)
    {test : Byte → Bool} (ht : test code = true) {request : List Byte → State → State × Answer} {f : State → State}
    {a : Answer} (hf : State.Blind f) (hr : request ps (s.grant p) = (f (s.grant p), a)) :
    s.takeCommand p test request = (f s).answered p a := by
  rw [State.takeCommand_of_granted h ht, hr]
  have hg : f (s.grant p) = { f s with ports := (s.grant p).ports, lastGranted := some p } :=
    hf s (s.grant p).ports (some p)
  have hs : (f s).ports = s.ports := by
    have h' : f s = { f s with ports := s.ports, lastGranted := s.lastGranted } := hf s s.ports s.lastGranted
    rw [h']
  simp only [hg]
  have hslot : ({ f s with ports := (s.grant p).ports, lastGranted := some p } : State).slot p =
      { s.slot p with state := .running } := s.slot_grant p
  simp only [State.placeAnswer, hslot, if_true]
  simp only [State.answered, State.setSlot, State.setPort, hs, State.slot]
  cases p <;> rfl

/-! ## Frames -/

theorem State.takeFrame_dead {s : State} {p : Port} {k : PortUnit → State} (h : s.live = false) :
    s.takeFrame p k = s := by
  simp [State.takeFrame, h]

theorem State.takeFrame_ignored {s : State} {p : Port} {k : PortUnit → State} (h : s.live = true)
    (hi : (s.ports.get p).ignoreFrame = true) :
    s.takeFrame p k = s.setPort p { s.ports.get p with ignoreFrame := false } := by
  simp [State.takeFrame, h, hi]

theorem State.takeFrame_taken {s : State} {p : Port} {k : PortUnit → State} (h : s.live = true)
    (hi : (s.ports.get p).ignoreFrame = false) : s.takeFrame p k = k (s.ports.get p) := by
  simp [State.takeFrame, h, hi]

@[simp] theorem markOpenFrames_get (selected : PortSet) (units : PerPort PortUnit) (p : Port) :
    (markOpenFrames selected units).get p = { units.get p with ignoreFrame := selected.get p } := by
  cases p <;> rfl

/-- A PORT RESET that meets no request of its port is the plain one. -/
theorem execPortReset_plain {s : State} {p : Port} {during : Bool} (h : (during && s.resetMeetsRequest p) = false)
    (bytes : List Byte) : execPortReset p ⟨bytes, during⟩ s = execPortReset p ⟨bytes, false⟩ s := by
  simp only [execPortReset, h, Bool.false_and]

/-! ## Pulses -/

theorem State.takesPulse_iff (s : State) (i : Fin 4) (w : Fin 8) :
    s.takesPulse i w = true ↔
      s.counts w = true ∧ (s.windows[w]).running = true ∧ (s.windows[w]).source = .event i := by
  simp [State.takesPulse, and_assoc]

/-! ## The table -/

theorem mem_of_findEntry {id : Byte} {t : List Entry} {e : Entry} (h : findEntry id t = some e) : e ∈ t ∧ e.id = id := by
  have h1 := List.mem_of_find?_eq_some h
  have h2 := List.find?_some h
  exact ⟨h1, by simpa using h2⟩

theorem findEntry_none {id : Byte} {t : List Entry} (h : findEntry id t = none) : ∀ e ∈ t, e.id ≠ id := by
  intro e he
  have := List.find?_eq_none.mp h e he
  simpa using this

theorem mem_insertEntry {e x : Entry} {t : List Entry} : x ∈ insertEntry e t ↔ x = e ∨ x ∈ t := by
  induction t with
  | nil => simp [insertEntry]
  | cons y ys ih =>
    unfold insertEntry
    split
    · simp
    · simp only [List.mem_cons, ih]
      tauto

theorem length_insertEntry (e : Entry) (t : List Entry) : (insertEntry e t).length = t.length + 1 := by
  induction t with
  | nil => rfl
  | cons y ys ih => unfold insertEntry; split <;> simp [ih]

theorem mem_removeEntry {id : Byte} {x : Entry} {t : List Entry} : x ∈ removeEntry id t ↔ x ∈ t ∧ x.id ≠ id := by
  simp [removeEntry]

/-- Under any write an entry keeps its place; the marked ones are unsaved. -/
theorem State.writeEntries_table (s : State) (f : Entry → Option Entry) :
    (s.writeEntries f).table = s.table.map (markedBy f) := rfl

/-- The write of one entry that is present. -/
theorem State.writeEntry_eq_written (s : State) {id : Byte} {e : Entry} (h : findEntry id s.table = some e)
    (f : Entry → Entry) : s.writeEntry id f = s.written id f := by
  have hm : (s.table.map (markedBy (fun e => if e.id = id then some (f e) else none))) =
      s.table.map (fun e => if e.id = id then { f e with unsaved := true } else e) := by
    apply List.map_congr_left
    intro x _
    by_cases hx : x.id = id <;> simp [markedBy, hx]
  have hg : (fun i => s.table.any (fun e => e.id == i && ((fun e => if e.id = id then some (f e) else none) e).isSome)) =
      (fun j => j == id) := by
    funext j
    obtain ⟨he, hid⟩ := mem_of_findEntry h
    rw [Bool.eq_iff_iff]
    simp only [List.any_eq_true, Bool.and_eq_true, beq_iff_eq]
    constructor
    · rintro ⟨x, -, hx, hs⟩
      by_cases hxi : x.id = id
      · rw [← hx, hxi]
      · simp [hxi] at hs
    · rintro rfl
      exact ⟨e, he, hid, by simp [hid]⟩
  simp only [State.writeEntry, State.writeEntries, State.written, hm, hg]

end Sys2Proof.Machine
end

