-- ==== Sys2Proof/Tests/Slice0.lean ====
section
/-! SUPPORT. The model's own tests: ill-formed commands, worked values of the manual, and for every statement with
hypotheses a state and operands that meet them, clause by clause at the ends of their ranges. -/

namespace Sys2Proof.Tests

open Sys2Proof Sys2Proof.Machine

/-! ## Ill-formed commands are refused by the check -/

theorem test_badKind_refuses_a_known_kind :
    (Instr.badKindFrame .a (some 0xC3) 0).wellFormed = false ∧
    (Instr.badKindFrame .a (some 0xC2) 0).wellFormed = true := by decide

theorem test_badKind_refuses_bytes_after_no_kind_byte :
    (Instr.badKindFrame .a none 1).wellFormed = false ∧ (Instr.badKindFrame .a none 0).wellFormed = true := by decide

theorem test_reset_refuses_a_fault_that_changes_nothing :
    (Instr.reset .rstN .writing [⟨.a, .header, 0⟩]).wellFormed = false ∧
    (Instr.reset .rstN .writing [⟨.a, .header, 1⟩]).wellFormed = true := by decide

theorem test_segment_refuses_a_fault_beyond_the_last_position :
    (Instr.auditSegmentEnd [⟨.b, .position 48, 1⟩]).wellFormed = false ∧
    (Instr.auditSegmentEnd [⟨.b, .position 47, 1⟩]).wellFormed = true := by decide

theorem test_no_word_spells_a_command : decodeTableWord 8 0xC3 = none := rfl

/-! ## Sample states -/

/-- A READY part with the no-image settings. -/
def up : State := { State.reset with mode := .idle }

/-- A COUNT entry of the lowest id, never tripped. -/
def e1 : Entry := ⟨1, .service, ⟨true, true, true⟩, 0, 1, 200, 200, false, false, .count 0⟩

/-- A RATE entry on counter 0, settled, last sample present. -/
def e5 : Entry := ⟨5, .urgent, ⟨true, false, false⟩, 100, 1, 200, 200, false, true, .rate 10 0 1 3 2 (some 4) 1⟩

/-- A LEVEL entry of the highest id. -/
def e254 : Entry := ⟨254, .service, ⟨false, true, true⟩, 0, 1, 200, 200, false, true, .level 0 none⟩

/-- A READY part with a tick in its queue, one entry of each kind, input 0 bound to the COUNT entry and every settable value at an end of its
range. -/
def stocked : State :=
  { up with
    pending := [.tick]
    table := [e1, e5, e254]
    lifetime := 60000
    autosaveInterval := 1440
    inputs := up.inputs.set 0 { EventInput.reset with binding := some 1 } }

/-- The command of this code and these parameters waits in port `p`'s slot. -/
def asking (p : Port) (code : Byte) (ps : List Byte) (s : State) : State :=
  { s with ports := s.ports.set p { s.ports.get p with slot := ⟨.waiting, 7, code, ps, none⟩ } }

/-- A command that waits alone on a READY part is granted. -/
theorem granted_asking (p : Port) (code : Byte) (ps : List Byte) (s : State) (hr : s.ready = true)
    (hp : s.ports = State.reset.ports) : (asking p code ps s).Granted p code ps := by
  have hn : (asking p code ps s).nextGrant = some p := by
    cases p <;> rcases h : s.lastGranted with _ | q <;> (try cases q) <;>
      simp [State.nextGrant, asking, searchOrder, h, hp, State.slot, PerPort.get, PerPort.set, State.reset,
        PortUnit.reset, Slot.reset, List.find?] <;> rfl
  refine ⟨hr, hn, ?_, ?_⟩ <;> cases p <;> rfl

theorem e1_ok : e1.Ok := by simp [Entry.Ok, e1]
theorem e5_ok : e5.Ok := by simp [Entry.Ok, e5]
theorem e254_ok : e254.Ok := by simp [Entry.Ok, e254]

/-! ## Witnesses: the machine and its invariants -/

theorem witness_StepRunsTheFrontCommand :
    ({ up with pending := [.tick, .uptimeSecond] } : State).pending = .tick :: [.uptimeSecond] ∧ up.pending = [] :=
  ⟨rfl, rfl⟩

theorem stocked_tableInv : stocked.TableInv := by
  have h : ∀ e ∈ stocked.table, e.Ok := by
    intro e he
    simp only [stocked, List.mem_cons, List.not_mem_nil, or_false] at he
    rcases he with rfl | rfl | rfl
    · exact e1_ok
    · exact e5_ok
    · exact e254_ok
  exact ⟨by decide, by unfold ascending; decide, h, (fun i h => by cases h), (fun sv w h => by cases h)⟩

theorem stocked_bindingInv : stocked.BindingInv := by
  intro i id h
  have : i = 0 ∧ id = 1 := by
    revert h; revert i id; unfold stocked; decide
  exact ⟨e1, by decide, this.2.symm ▸ rfl, rfl⟩

theorem stocked_joinInv : stocked.JoinInv := by unfold State.JoinInv; decide

theorem stocked_counterInv : stocked.CounterInv := by
  intro w
  refine ⟨by revert w; decide, fun _ => by revert w; decide, fun i _ => ?_⟩
  exact (by decide : ∀ w : Fin 8, (stocked.windows[w]).phase = 0) w

theorem stocked_proposalInv : stocked.ProposalInv := by
  have free : ∀ k : Fin 4, stocked.proposals[k] = none := by decide
  refine ⟨by decide, ?_, ?_, by decide, ⟨by decide, ?_⟩, ⟨by decide, by decide⟩, fun h => by cases h⟩
  · intro k q h; rw [free k] at h; cases h
  · intro j k q r h; rw [free j] at h; cases h
  · intro k
    refine ⟨fun h => ?_, ?_⟩
    · cases h
    rintro ⟨q, o, h, _⟩; rw [free k] at h; cases h

theorem witness_StepKeepsTheTableOrderedAndBounded : stocked.TableInv ∧ ∃ t, step stocked = .next t :=
  ⟨stocked_tableInv, _, rfl⟩

theorem witness_StepKeepsBindingsAndJoinedPairs :
    stocked.TableInv ∧ stocked.BindingInv ∧ stocked.JoinInv ∧ ∃ t, step stocked = .next t :=
  ⟨stocked_tableInv, stocked_bindingInv, stocked_joinInv, _, rfl⟩

theorem witness_StepKeepsVerdictAndHistoryInAgreement : stocked.VerdictInv ∧ ∃ t, step stocked = .next t := by
  refine ⟨⟨fun h => ?_, fun _ => by decide, by decide, ⟨rfl, rfl, rfl⟩, trivial⟩, _, rfl⟩
  exact nomatch h.1

theorem witness_StepKeepsCountsWithinTheirReload : stocked.CounterInv ∧ ∃ t, step stocked = .next t :=
  ⟨stocked_counterInv, _, rfl⟩

theorem witness_StepKeepsProposalSlotsConsistent : stocked.ProposalInv ∧ ∃ t, step stocked = .next t :=
  ⟨stocked_proposalInv, _, rfl⟩

theorem witness_StepKeepsTheAuditSweepConsistent : stocked.AuditInv ∧ ∃ t, step stocked = .next t :=
  ⟨⟨by decide, rfl, by decide, by decide⟩, _, rfl⟩

theorem witness_StepKeepsTheRetentionUnitConsistent : stocked.RetentionInv ∧ ∃ t, step stocked = .next t :=
  ⟨⟨(fun i h => by cases h), (fun sv w h => by cases h), by decide, by decide, by decide, by decide, by decide⟩, _, rfl⟩

theorem witness_StepKeepsSlotsInTheirStates : stocked.SlotInv ∧ ∃ t, step stocked = .next t := by
  refine ⟨fun p => ⟨by cases p <;> decide, ⟨fun h => ?_, ?_⟩, fun _ => by cases p <;> exact ⟨rfl, rfl⟩, ?_⟩, _, rfl⟩
  · cases p <;> cases h
  · rintro ⟨sv, w, h, _⟩; cases h
  · intro sv x h; cases h

/-! ## Witnesses: saving and loading -/

theorem witness_SaveThenLoadRestoresTheTable : stocked.TableInv := stocked_tableInv

theorem witness_SaveThenLoadRestoresTheSettings :
    stocked.TableInv ∧ stocked.BindingInv ∧ stocked.JoinInv ∧ stocked.CounterInv ∧
    100 ≤ stocked.lifetime.toNat ∧ stocked.lifetime.toNat ≤ 60000 ∧ stocked.autosaveInterval.toNat ≤ 1440 ∧
    ({ up with table := stocked.table } : State).table = stocked.table ∧ stocked.counts 0 = true :=
  ⟨stocked_tableInv, stocked_bindingInv, stocked_joinInv, stocked_counterInv, by decide, by decide, by decide, rfl,
    by decide⟩

/-! ## Witnesses: commands that read -/

theorem witness_IdentifyAnswersThePart :
    (asking .a 0x01 [] up).Granted .a 0x01 [] ∧ (asking .c 0x01 [0] up).Granted .c 0x01 [0] :=
  ⟨granted_asking _ _ _ _ rfl rfl, granted_asking _ _ _ _ rfl rfl⟩

theorem witness_ReadEntryAnswersTheRecord :
    (asking .a 0x14 [1] stocked).Granted .a 0x14 [1] ∧ (asking .b 0x14 [254] stocked).Granted .b 0x14 [254] ∧
    findEntry 1 stocked.table = some e1 ∧ findEntry 2 stocked.table = none :=
  ⟨granted_asking _ _ _ _ rfl rfl, granted_asking _ _ _ _ rfl rfl, by decide, by decide⟩

theorem witness_ListVerdictAndHistoryAnswerTheirPages :
    (asking .a 0x15 [0] stocked).Granted .a 0x15 [0] ∧ (asking .a 0x15 [254] stocked).Granted .a 0x15 [254] ∧
    (asking .b 0x20 [0] stocked).Granted .b 0x20 [0] ∧ (asking .b 0x20 [254] stocked).Granted .b 0x20 [254] ∧
    (asking .c 0x23 [0] stocked).Granted .c 0x23 [0] ∧ (asking .c 0x23 [255] stocked).Granted .c 0x23 [255] :=
  ⟨granted_asking _ _ _ _ rfl rfl, granted_asking _ _ _ _ rfl rfl, granted_asking _ _ _ _ rfl rfl,
    granted_asking _ _ _ _ rfl rfl, granted_asking _ _ _ _ rfl rfl, granted_asking _ _ _ _ rfl rfl⟩

theorem witness_ReadInputAndReadWindowAnswerTheirRecords :
    (asking .a 0x41 [BitVec.ofNat 8 (3 : Fin 4).val] up).Granted .a 0x41 [BitVec.ofNat 8 (3 : Fin 4).val] ∧
    (asking .a 0x35 [BitVec.ofNat 8 (7 : Fin 8).val] up).Granted .a 0x35 [BitVec.ofNat 8 (7 : Fin 8).val] :=
  ⟨granted_asking _ _ _ _ rfl rfl, granted_asking _ _ _ _ rfl rfl⟩

theorem witness_ReadRetentionAnswersTheFixedRecord : (asking .a 0x62 [] up).Granted .a 0x62 [] :=
  granted_asking _ _ _ _ rfl rfl

theorem witness_ReadAuditAnswersTheSweep :
    (asking .a 0x64 [] up).Granted .a 0x64 [] ∧ (asking .a 0x64 [0] up).Granted .a 0x64 [0] :=
  ⟨granted_asking _ _ _ _ rfl rfl, granted_asking _ _ _ _ rfl rfl⟩

/-! ## Witnesses: refusals -/

theorem no_row_has_code_65 (p : Port) (c : Instr) : portAndCode c ≠ some (p, 0x65) := by
  cases c <;> simp [portAndCode]

theorem witness_RefusedBlocksAndUnknownCodes :
    (portAndCode (.define .a) = some (.a, 0x10) ∧ (asking .a 0x10 [] up).Granted .a 0x10 [] ∧
      blockOk 0x10 [] = false) ∧
    (portAndCode (.freeze .a) = some (.a, 0x50) ∧ (asking .a 0x50 [0, 99] up).Granted .a 0x50 [0, 99] ∧
      blockOk 0x50 [0, 99] = false) ∧
    ((asking .a 0x65 [] up).Granted .a 0x65 [] ∧ ∀ c : Instr, portAndCode c ≠ some (.a, 0x65)) :=
  ⟨⟨rfl, granted_asking _ _ _ _ rfl rfl, by decide⟩, ⟨rfl, granted_asking _ _ _ _ rfl rfl, by decide⟩,
    granted_asking _ _ _ _ rfl rfl, no_row_has_code_65 .a⟩

/-- A table of 48 entries, ids 1 to 48. -/
def full : State := { up with table := (List.range 48).map (fun n => { e1 with id := BitVec.ofNat 8 (n + 1) }) }

/-- A part whose pair 3 is joined. -/
def paired : State := { up with joined := up.joined.set 3 true }

theorem witness_TableCommandsRefuseInOrder :
    ((asking .a 0x10 [254, 1, 1, 0, 0, 0, 1, 0, 0, 0, 0] stocked).Granted .a 0x10 [254, 1, 1, 0, 0, 0, 1, 0, 0, 0, 0] ∧
      blockOk 0x10 [254, 1, 1, 0, 0, 0, 1, 0, 0, 0, 0] = true ∧ findEntry 254 stocked.table ≠ none) ∧
    ((asking .a 0x10 [254, 1, 2, 7, 255, 0, 1, 0, 0, 0, 0] full).Granted .a 0x10 [254, 1, 2, 7, 255, 0, 1, 0, 0, 0, 0] ∧
      blockOk 0x10 [254, 1, 2, 7, 255, 0, 1, 0, 0, 0, 0] = true ∧ findEntry 254 full.table = none ∧
      48 ≤ full.table.length) ∧
    ((asking .a 0x10 [1, 2, 2, 7, 250, 0, 1, 0, 0, 7, 15] paired).Granted .a 0x10 [1, 2, 2, 7, 250, 0, 1, 0, 0, 7, 15] ∧
      blockOk 0x10 [1, 2, 2, 7, 250, 0, 1, 0, 0, 7, 15] = true ∧ paired.joined[pairOf 7] = true) ∧
    ((asking .a 0x11 [1] up).Granted .a 0x11 [1] ∧ (asking .a 0x13 [254] up).Granted .a 0x13 [254] ∧
      blockOk 0x11 [1] = true ∧ blockOk 0x13 [254] = true ∧ findEntry 1 up.table = none ∧
      findEntry 254 up.table = none) ∧
    ((asking .a 0x12 [1, 1, 0, 0, 0, 1, 0, 0, 15] up).Granted .a 0x12 [1, 1, 0, 0, 0, 1, 0, 0, 15] ∧
      blockOk 0x12 [1, 1, 0, 0, 0, 1, 0, 0, 15] = true) ∧
    ((asking .a 0x12 [1, 1, 0, 0, 0, 1, 0, 1, 0] stocked).Granted .a 0x12 [1, 1, 0, 0, 0, 1, 0, 1, 0] ∧
      blockOk 0x12 [1, 1, 0, 0, 0, 1, 0, 1, 0] = true ∧ findEntry 1 stocked.table = some e1 ∧
      ∀ k, ¬ TunesKind e1.kind 1 0 k) :=
  ⟨⟨granted_asking _ _ _ _ rfl rfl, by decide, by decide⟩, ⟨granted_asking _ _ _ _ rfl rfl, by decide, by decide, by decide⟩,
    ⟨granted_asking _ _ _ _ rfl rfl, by decide, by decide⟩,
    ⟨granted_asking _ _ _ _ rfl rfl, granted_asking _ _ _ _ rfl rfl, by decide, by decide, by decide, by decide⟩,
    ⟨granted_asking _ _ _ _ rfl rfl, by decide⟩,
    ⟨granted_asking _ _ _ _ rfl rfl, by decide, by decide, fun k h => by cases h⟩⟩

/-! ## Witnesses: the table commands and reports -/

theorem witness_DefineCreatesTheEntry :
    ((asking .a 0x10 [1, 1, 1, 0, 0, 0, 1, 0, 0, 0, 0] up).Granted .a 0x10 [1, 1, 1, 0, 0, 0, 1, 0, 0, 0, 0] ∧
      DefinesKind 1 ((0 : Byte) ++ (0 : Byte)) 0 0 (.count 0) ∧ up.windowFree (.count 0)) ∧
    ((asking .b 0x10 [254, 2, 2, 7, 255, 255, 255, 255, 255, 7, 15] up).Granted .b 0x10
        [254, 2, 2, 7, 255, 255, 255, 255, 255, 7, 15] ∧
      DefinesKind 2 ((255 : Byte) ++ (255 : Byte)) 7 15 (.rate 65535 7 15 0 0 none 0) ∧
      up.windowFree (.rate 65535 7 15 0 0 none 0)) ∧
    ((asking .c 0x10 [2, 3, 1, 7, 250, 0, 1, 128, 0, 0, 0] stocked).Granted .c 0x10 [2, 3, 1, 7, 250, 0, 1, 128, 0, 0, 0] ∧
      DefinesKind 3 ((128 : Byte) ++ (0 : Byte)) 0 0 (.level 32768 none) ∧ stocked.windowFree (.level 32768 none) ∧
      findEntry 2 stocked.table = none ∧ stocked.table.length < 48 ∧ stocked.frozen = false) ∧
    (({ up with mode := .auditing } : State).mode = .auditing ∧ up.mode ≠ .auditing) ∧
    (∀ sv w, up.mode ≠ .saving sv w) :=
  ⟨⟨granted_asking _ _ _ _ rfl rfl, .count, trivial⟩,
    ⟨granted_asking _ _ _ _ rfl rfl, .rate 65535 7 15 (by decide), fun h => absurd h.2 (by decide)⟩,
    ⟨granted_asking _ _ _ _ rfl rfl, .level 32768, trivial, by decide, by decide, rfl⟩, ⟨rfl, by decide⟩,
    fun _ _ h => by cases h⟩

theorem witness_RetireRemovesTheEntry_and_Clear :
    ((asking .a 0x11 [1] stocked).Granted .a 0x11 [1] ∧ findEntry 1 stocked.table ≠ none) ∧
    ((asking .a 0x11 [254] stocked).Granted .a 0x11 [254] ∧ findEntry 254 stocked.table ≠ none) ∧
    ((asking .a 0x13 [1] stocked).Granted .a 0x13 [1] ∧ (asking .a 0x13 [254] stocked).Granted .a 0x13 [254] ∧
      stocked.frozen = false) :=
  ⟨⟨granted_asking _ _ _ _ rfl rfl, by decide⟩, ⟨granted_asking _ _ _ _ rfl rfl, by decide⟩,
    granted_asking _ _ _ _ rfl rfl, granted_asking _ _ _ _ rfl rfl, rfl⟩

theorem witness_TuneRewritesTheEntry :
    ((asking .a 0x12 [1, 2, 7, 255, 0, 1, 0, 0, 0] stocked).Granted .a 0x12 [1, 2, 7, 255, 0, 1, 0, 0, 0] ∧
      blockOk 0x12 [1, 2, 7, 255, 0, 1, 0, 0, 0] = true ∧ findEntry 1 stocked.table = some e1 ∧
      TunesKind e1.kind ((0 : Byte) ++ (0 : Byte)) (0 : Byte).toNat (.count 0)) ∧
    ((asking .a 0x12 [5, 1, 0, 250, 0, 1, 255, 255, 15] stocked).Granted .a 0x12 [5, 1, 0, 250, 0, 1, 255, 255, 15] ∧
      blockOk 0x12 [5, 1, 0, 250, 0, 1, 255, 255, 15] = true ∧ findEntry 5 stocked.table = some e5 ∧
      TunesKind e5.kind ((255 : Byte) ++ (255 : Byte)) (15 : Byte).toNat (.rate 65535 0 15 3 2 (some 4) 1)) ∧
    ((asking .a 0x12 [254, 1, 0, 0, 0, 1, 128, 0, 0] stocked).Granted .a 0x12 [254, 1, 0, 0, 0, 1, 128, 0, 0] ∧
      blockOk 0x12 [254, 1, 0, 0, 0, 1, 128, 0, 0] = true ∧ findEntry 254 stocked.table = some e254 ∧
      TunesKind e254.kind ((128 : Byte) ++ (0 : Byte)) (0 : Byte).toNat (.level 32768 none)) :=
  ⟨⟨granted_asking _ _ _ _ rfl rfl, by decide, by decide, .count _⟩,
    ⟨granted_asking _ _ _ _ rfl rfl, by decide, by decide, .rate ..⟩,
    ⟨granted_asking _ _ _ _ rfl rfl, by decide, by decide, .level ..⟩⟩

theorem witness_ReportsApplyWholeOrNotAtAll :
    ((asking .a 0x16 (reportBlock [(1, 1), (5, 65535)]) stocked).Granted .a 0x16 (reportBlock [(1, 1), (5, 65535)]) ∧
      ∀ item ∈ [((1 : Byte), (1 : Word16)), (5, 65535)], itemPasses stocked .a item) ∧
    ((asking .b 0x16 (reportBlock (List.replicate 8 (254, 0))) stocked).Granted .b 0x16
        (reportBlock (List.replicate 8 (254, 0))) ∧
      ∀ item ∈ List.replicate 8 ((254 : Byte), (0 : Word16)), itemPasses stocked .b item) ∧
    ((asking .a 0x16 (reportBlock ([(1, 1)] ++ (2, 1) :: [])) stocked).Granted .a 0x16
        (reportBlock ([(1, 1)] ++ (2, 1) :: [])) ∧
      itemPasses stocked .a (1, 1) ∧ ItemFails stocked .a (2, 1) .noEntry ∧
      ItemFails stocked .a (254, 1) .notPermitted ∧ ItemFails stocked .a (1, 0) .badParam) := by
  have p1 : itemPasses stocked .a (1, 1) := ⟨e1, by decide, rfl, .inr (by decide)⟩
  refine ⟨⟨granted_asking _ _ _ _ rfl rfl, ?_⟩, ⟨granted_asking _ _ _ _ rfl rfl, ?_⟩, granted_asking _ _ _ _ rfl rfl, p1,
    .absent (by decide), .notPermitted e254 (by decide) rfl, .badValue e1 (by decide) rfl rfl rfl⟩
  · intro item h
    simp only [List.mem_cons, List.not_mem_nil, or_false] at h
    rcases h with rfl | rfl
    · exact p1
    · exact ⟨e5, by decide, rfl, .inr (by decide)⟩
  · intro item h
    rw [(List.mem_replicate.mp h).2]
    exact ⟨e254, by decide, rfl, .inl rfl⟩

theorem witness_ObservationsMoveEntriesByKind :
    e1.kind = .count 0 ∧ e5.kind = .rate 10 0 1 3 2 (some 4) 1 ∧ e254.kind = .level 0 none := ⟨rfl, rfl, rfl⟩

theorem witness_GradesTripsAndVerdictFollowTheirRules : (1 : Word16) ≠ 0 ∧ (65535 : Word16) ≠ 0 := by decide

/-- A table whose one entry is always tripped, the verdict not yet recomputed. -/
def tripping : State := { up with table := [{ e1 with trip := 255 }] }

theorem witness_RecomputationMakesOneChangeAtMost :
    deriveVerdict up.table = up.verdict ∧
    (deriveVerdict tripping.table ≠ tripping.verdict ∧ tripping.autosaveOnWorsen = false) ∧
    deriveVerdict up.table ≠ ({ up with verdict := .urgent, autosaveOnWorsen := true } : State).verdict ∧
    (tripping.verdict = .nominal ∧ deriveVerdict tripping.table ≠ .nominal ∧
      ({ tripping with autosaveOnWorsen := true } : State).autosaveOnWorsen = true) := by decide

/-! ## Witnesses: notices -/

theorem witness_AckIsJudgedAgainstTheCurrentSequence :
    (asking .a 0x21 [0, 0] up).Granted .a 0x21 [0, 0] ∧ (asking .a 0x21 [0] up).Granted .a 0x21 [0] ∧
    ((asking .a 0x21 [0, 0] { up with notices := ⟨⟨.any, .pending⟩, ⟨.any, .pending⟩, ⟨.any, .pending⟩⟩ }).Granted .a 0x21
      [0, 0]) :=
  ⟨granted_asking _ _ _ _ rfl rfl, granted_asking _ _ _ _ rfl rfl, granted_asking _ _ _ _ rfl rfl⟩

theorem witness_SetNoticeWritesTheMaskOfItsPort :
    (asking .a 0x22 [0] up).Granted .a 0x22 [0] ∧ (asking .b 0x22 [2] up).Granted .b 0x22 [2] ∧
    (asking .c 0x22 [3] up).Granted .c 0x22 [3] :=
  ⟨granted_asking _ _ _ _ rfl rfl, granted_asking _ _ _ _ rfl rfl, granted_asking _ _ _ _ rfl rfl⟩

/-! ## Witnesses: event inputs and window counters -/

/-- `up` with input 3 as given. -/
def input3 (e : EventInput) : State := { up with inputs := up.inputs.set 3 e }

/-- `up` with counter 7 as given. -/
def counter7 (c : Counter) : State := { up with windows := up.windows.set 7 c }

theorem witness_EdgesBeginAndEndPulses :
    (up.ready = true ∧ (up.inputs[0]).level = false ∧ (up.inputs[0]).judging = none ∧ (up.inputs[0]).filter = .off ∧
      (true && (up.inputs[0]).acceptedOnce) = false) ∧
    (let e := (input3 { EventInput.reset with filter := .us100, edge := .fall, level := true }).inputs[(3 : Fin 4)];
      e.level = true ∧ e.edge = .fall ∧ e.judging = none ∧ e.filter ≠ .off) ∧
    (State.reset.ready = false ∧ (State.reset.inputs[0]).level = false) ∧
    (let e := (input3 { EventInput.reset with acceptedOnce := true }).inputs[(3 : Fin 4)];
      e.judging = none ∧ e.acceptedOnce = true ∧ e.level = false) ∧
    (let s := input3 { EventInput.reset with level := true, judging := some ⟨.us1, .rise⟩ };
      s.ready = true ∧ (s.inputs[(3 : Fin 4)]).judging = some ⟨.us1, .rise⟩ ∧ (s.inputs[(3 : Fin 4)]).level = true) ∧
    (let e := (input3 { EventInput.reset with level := true }).inputs[(3 : Fin 4)];
      e.judging = none ∧ e.level = true) ∧
    (let s := input3 { EventInput.reset with windowPulses := Vector.replicate 8 1 };
      s.ready = true ∧ 0 < (s.inputs[(3 : Fin 4)]).windowPulses[(7 : Fin 8)] ∧
      ¬ (s.counts 7 = true ∧ (s.windows[(7 : Fin 8)]).running = true ∧ (s.windows[(7 : Fin 8)]).source = .event 3)) := by
  decide

/-- `stocked` with a fold of input 0 waiting, bound to this id. -/
def folding (id : Option Byte) : State :=
  { stocked with inputs := up.inputs.set 0 { EventInput.reset with folds := 1, binding := id } }

/-- A RATE entry whose total has saturated. -/
def e5full : Entry := { e5 with kind := .rate 10 0 1 0xFFFFFFFF 2 (some 4) 1 }

theorem witness_FoldsCountUnderTheBindingOfTheMoment :
    (folding none).ready = true ∧ 0 < ((folding none).inputs[(0 : Fin 4)]).folds ∧ ascending stocked.table ∧
    ((folding (some 1)).inputs[(0 : Fin 4)]).binding = some 1 ∧ findEntry 1 stocked.table = some e1 ∧
    ((folding (some 5)).inputs[(0 : Fin 4)]).binding = some 5 ∧ findEntry 5 stocked.table = some e5 ∧
    (3 : Word32) ≠ 0xFFFFFFFF ∧ ascending [e5full] ∧ findEntry 5 [e5full] = some e5full ∧
    ((folding none).inputs[(0 : Fin 4)]).binding = none := by
  unfold ascending; decide

/-- `up` with a pulse of input 3 handed to counters 0 and 7, each one count before its close. -/
def twoHanded : State :=
  { up with
    windows := (up.windows.set 0 { Counter.reset with source := .event 3, running := true, count := 1 }).set 7
      { Counter.reset with source := .event 3, running := true, count := 1 }
    inputs := up.inputs.set 3 { EventInput.reset with windowPulses := (Vector.replicate 8 0 |>.set 0 1).set 7 1 } }

theorem witness_DecrementsCountDownOrClose :
    2 ≤ ({ Counter.reset with count := 2 } : Counter).count ∧ ({ Counter.reset with count := 1 } : Counter).count = 1 ∧
    (let s := counter7 { Counter.reset with source := .tick .ms1000, running := true, count := 1, phase := 1000 };
      s.ready = true ∧ s.counts 7 = true ∧ (s.windows[(7 : Fin 8)]).running = true ∧
      (s.windows[(7 : Fin 8)]).source = .tick .ms1000 ∧ (s.windows[(7 : Fin 8)]).phase = Divider.ms1000.ticks) ∧
    (let s : State :=
      { counter7 { Counter.reset with source := .event 3, running := true } with
        inputs := up.inputs.set 3 { EventInput.reset with windowPulses := Vector.replicate 8 1 } };
      s.ready = true ∧ 0 < (s.inputs[(3 : Fin 4)]).windowPulses[(7 : Fin 8)] ∧
      s.counts 7 = true ∧ (s.windows[(7 : Fin 8)]).running = true ∧ (s.windows[(7 : Fin 8)]).source = .event 3) ∧
    (twoHanded.ready = true ∧ ∀ x : Fin 8, x = 0 ∨ x = 7 →
      twoHanded.counts x = true ∧ (twoHanded.windows[x]).running = true ∧ (twoHanded.windows[x]).source = .event 3 ∧
      0 < (twoHanded.inputs[(3 : Fin 4)]).windowPulses[x]) := by decide

theorem witness_ClosesAndEarlyLooksGradeTheBoundEntries :
    ((counter7 { Counter.reset with waiting := [.close] }).windows[(7 : Fin 8)]).waiting = .close :: [] ∧
    ((counter7 { Counter.reset with waiting := [.early, .close] }).windows[(7 : Fin 8)]).waiting = .early :: [.close] ∧
    (counter7 Counter.reset).ready = true ∧
    e5.kind = .rate 10 0 1 3 2 (some 4) 1 ∧ 1 ≤ min 255 (1 + 1) ∧ min 255 (13 + 1) < 15 ∧
    (1 ≤ 1 ∧ rateGrade 11 10 1 < 200 ∧ rateGrade 10 10 1 < 201 ∧ rateGrade 10 10 1 ≤ 200) ∧ 0 < 1 ∧
    200 ≤ rateGrade 2 10 1 ∧ 200 < rateGrade 9 10 1 := by decide

/-- R27: a grade of 230 is lowered to 200 and is not disturbed by a provisional grade of 210. -/
theorem test_early_look_above_200 :
    (({ e5 with grade := 230, kind := .rate 10 0 1 3 10 (some 4) 1 } : Entry).lookEarly.map (fun e => e.grade)) = some 200 ∧
    ({ e5 with grade := 230, kind := .rate 10 0 1 3 0 (some 4) 1 } : Entry).lookEarly = none := by decide

/-- The early look of 04 section 4.9: held 210, provisional 170. -/
theorem test_early_look_of_the_example :
    ({ e5 with grade := 210, step := 2, kind := .rate 100 6 1 250 160 (some 90) 1 } : Entry).lookEarly.map
      (fun e => (e.grade, e.lowMark)) = some (170, 170) := by decide

theorem witness_WindowsAreSetStartedStoppedAndPreset :
    ((asking .a 0x30 [BitVec.ofNat 8 (0 : Fin 8).val, 0, 7, 0, 1, 255, 255] up).Granted .a 0x30
        [BitVec.ofNat 8 (0 : Fin 8).val, 0, 7, 0, 1, 255, 255] ∧
      (Source.tick .ms1000).toByte = 0 ∧ (Source.tick .ms1000).selector = 7 ∧ (0 : Byte) ++ (1 : Byte) ≠ (0 : Word16) ∧
      (up.windows[(0 : Fin 8)]).running = false ∧ up.joined[pairOf 0] = false) ∧
    ((asking .a 0x30 [BitVec.ofNat 8 (6 : Fin 8).val, 1, 3, 255, 255, 0, 0] paired).Granted .a 0x30
        [BitVec.ofNat 8 (6 : Fin 8).val, 1, 3, 255, 255, 0, 0] ∧
      (Source.event 3).toByte = 1 ∧ (Source.event 3).selector = 3 ∧ paired.joined[pairOf 6] = true ∧
      (6 : Fin 8) = lowOf (pairOf 6) ∧ (paired.windows[(6 : Fin 8)]).running = false) ∧
    ((asking .a 0x30 [BitVec.ofNat 8 (7 : Fin 8).val, 0, 0, 255, 255, 0, 0] paired).Granted .a 0x30
        [BitVec.ofNat 8 (7 : Fin 8).val, 0, 0, 255, 255, 0, 0] ∧ (7 : Fin 8) = highOf (pairOf 7)) ∧
    ((asking .a 0x30 [BitVec.ofNat 8 (7 : Fin 8).val, 0, 0, 0, 1, 0, 0]
        (counter7 { Counter.reset with running := true })).Granted .a 0x30 [BitVec.ofNat 8 (7 : Fin 8).val, 0, 0, 0, 1, 0, 0] ∧
      ¬ ((counter7 { Counter.reset with running := true }).windows[(7 : Fin 8)]).running = false) ∧
    ((asking .a 0x32 [BitVec.ofNat 8 (7 : Fin 8).val] paired).Granted .a 0x32 [BitVec.ofNat 8 (7 : Fin 8).val] ∧
      (asking .a 0x33 [BitVec.ofNat 8 (0 : Fin 8).val] up).Granted .a 0x33 [BitVec.ofNat 8 (0 : Fin 8).val] ∧
      (asking .a 0x34 [BitVec.ofNat 8 (7 : Fin 8).val] up).Granted .a 0x34 [BitVec.ofNat 8 (7 : Fin 8).val] ∧
      up.frozen = false ∧ paired.frozen = false) :=
  ⟨⟨granted_asking _ _ _ _ rfl rfl, by decide⟩, ⟨granted_asking _ _ _ _ rfl rfl, by decide⟩,
    ⟨granted_asking _ _ _ _ rfl rfl, by decide⟩, ⟨granted_asking _ _ _ _ rfl rfl, by decide⟩,
    granted_asking _ _ _ _ rfl rfl, granted_asking _ _ _ _ rfl rfl, granted_asking _ _ _ _ rfl rfl, rfl, rfl⟩

theorem witness_JoinPairJoinsAndSplits :
    ((asking .a 0x31 [BitVec.ofNat 8 (3 : Fin 4).val, 1] (counter7 { Counter.reset with running := true })).Granted .a 0x31
        [BitVec.ofNat 8 (3 : Fin 4).val, 1] ∧
      ((counter7 { Counter.reset with running := true }).windows[highOf 3]).running = true) ∧
    ((asking .a 0x31 [BitVec.ofNat 8 (0 : Fin 4).val, 1]
        { up with table := [{ e5 with kind := .rate 0 1 0 0 0 none 0 }] }).Granted .a 0x31
        [BitVec.ofNat 8 (0 : Fin 4).val, 1] ∧
      ∃ e ∈ [{ e5 with kind := .rate 0 1 0 0 0 none 0 }], e.boundTo (highOf 0) = true) ∧
    ((asking .a 0x31 [BitVec.ofNat 8 (3 : Fin 4).val, 1] up).Granted .a 0x31 [BitVec.ofNat 8 (3 : Fin 4).val, 1] ∧
      (asking .a 0x31 [BitVec.ofNat 8 (3 : Fin 4).val, 0] paired).Granted .a 0x31 [BitVec.ofNat 8 (3 : Fin 4).val, 0] ∧
      (up.windows[lowOf 3]).running = false ∧ (up.windows[highOf 3]).running = false ∧
      ¬ ∃ e ∈ up.table, e.boundTo (highOf 3) = true) ∧
    (paired.joined[pairOf 7] = true ∧ paired.counts 7 = false ∧ up.joined[pairOf 7] = false ∧ up.counts 7 = true) :=
  ⟨⟨granted_asking _ _ _ _ rfl rfl, by decide⟩, ⟨granted_asking _ _ _ _ rfl rfl, by decide⟩,
    ⟨granted_asking _ _ _ _ rfl rfl, granted_asking _ _ _ _ rfl rfl, by decide, by decide, by decide⟩, by decide⟩

/-! ## Witnesses: settings and proposals -/

/-- `stocked` with its table frozen. -/
def frozen : State := { stocked with frozen := true }

theorem witness_SettingCommandsWriteTheirSettings :
    ((asking .a 0x50 [0, 0] up).Granted .a 0x50 [0, 0] ∧ (asking .a 0x50 [0, 100] frozen).Granted .a 0x50 [0, 100] ∧
      (asking .a 0x50 [234, 96] up).Granted .a 0x50 [234, 96] ∧ ((234 : Byte) ++ (96 : Byte) : Word16).toNat = 60000 ∧
      up.frozen = false ∧ frozen.frozen = true) ∧
    (asking .a 0x51 [] up).Granted .a 0x51 [] ∧
    ((asking .a 0x61 [1, 5, 160] up).Granted .a 0x61 [1, 5, 160] ∧
      ((5 : Byte) ++ (160 : Byte) : Word16).toNat = 1440) ∧
    ((asking .a 0x40 [BitVec.ofNat 8 (3 : Fin 4).val, 0, 3, 1] stocked).Granted .a 0x40
        [BitVec.ofNat 8 (3 : Fin 4).val, 0, 3, 1] ∧ Filter.toByte .us100 = 3 ∧ Edge.toByte .fall = 1) ∧
    ((asking .a 0x40 [BitVec.ofNat 8 (0 : Fin 4).val, 1, 0, 0] stocked).Granted .a 0x40
        [BitVec.ofNat 8 (0 : Fin 4).val, 1, 0, 0] ∧ findEntry 1 stocked.table = some e1 ∧ e1.kind.isLevel = false) ∧
    ((asking .a 0x40 [BitVec.ofNat 8 (0 : Fin 4).val, 254, 0, 0] stocked).Granted .a 0x40
        [BitVec.ofNat 8 (0 : Fin 4).val, 254, 0, 0] ∧ findEntry 254 stocked.table = some e254 ∧
      e254.kind.isLevel = true) ∧
    ((asking .a 0x40 [BitVec.ofNat 8 (0 : Fin 4).val, 2, 0, 0] stocked).Granted .a 0x40
        [BitVec.ofNat 8 (0 : Fin 4).val, 2, 0, 0] ∧ findEntry 2 stocked.table = none) :=
  ⟨⟨granted_asking _ _ _ _ rfl rfl, granted_asking _ _ _ _ rfl rfl, granted_asking _ _ _ _ rfl rfl, by decide, rfl, rfl⟩,
    granted_asking _ _ _ _ rfl rfl, ⟨granted_asking _ _ _ _ rfl rfl, by decide⟩,
    ⟨granted_asking _ _ _ _ rfl rfl, by decide⟩, ⟨granted_asking _ _ _ _ rfl rfl, by decide⟩,
    ⟨granted_asking _ _ _ _ rfl rfl, by decide⟩, ⟨granted_asking _ _ _ _ rfl rfl, by decide⟩⟩

/-- Port A's proposal of this number, code and parameters, OPEN or closed. -/
def proposalOfA (n : Word16) (code : StructuralCode) (ps : List Byte) (o : Option ProposalOutcome) : Proposal :=
  ⟨n, .a, code, ps, 0, o⟩

/-- `frozen` with all four slots in use, numbers 65535, 1, 2 and 3: the first two OPEN, the last two as given. -/
def proposed (o : Option ProposalOutcome) (closing : List (Fin 4)) : State :=
  { frozen with
    proposals := (((up.proposals.set 0 (some (proposalOfA 65535 .clear [1] none))).set 1
      (some (proposalOfA 1 .unfreeze [] none))).set 2 (some (proposalOfA 2 .retire [1] o))).set 3
      (some (proposalOfA 3 .retire [1] o))
    closingOrder := closing
    madeOrder := [0, 1, 2, 3]
    nextNumber := 65535 }

theorem witness_StructuralCommandsBecomeProposals :
    (portAndCode (.clear .b) = some (.b, 0x13) ∧ structuralCode 0x13 = some .clear ∧
      (asking .b 0x13 [254] frozen).Granted .b 0x13 [254] ∧ frozen.frozen = true ∧ blockOk 0x13 [254] = true ∧
      frozen.newSlot 0) ∧
    ((asking .b 0x13 [1] (proposed (some .expired) [2, 3])).Granted .b 0x13 [1] ∧ blockOk 0x13 [1] = true ∧
      (proposed (some .expired) [2, 3]).newSlot 2) ∧
    ((asking .b 0x51 [] (proposed none [])).Granted .b 0x51 [] ∧ structuralCode 0x51 = some .unfreeze ∧
      blockOk 0x51 [] = true ∧ (∀ k : Fin 4, (proposed none []).proposals[k] ≠ none) ∧
      (proposed none []).closingOrder = []) :=
  ⟨⟨rfl, by decide, granted_asking _ _ _ _ rfl rfl, rfl, by decide, .inl ⟨by decide, by decide⟩⟩,
    ⟨granted_asking _ _ _ _ rfl rfl, by decide, .inr ⟨by decide, rfl⟩⟩,
    granted_asking _ _ _ _ rfl rfl, by decide, by decide, by decide, rfl⟩

theorem proposed_inv : (proposed (some .withdrawn) [2, 3]).ProposalInv := by
  have get : ∀ (k : Fin 4) (q : Proposal), (proposed (some .withdrawn) [2, 3]).proposals[k] = some q →
      (k = 0 ∧ q = proposalOfA 65535 .clear [1] none) ∨ (k = 1 ∧ q = proposalOfA 1 .unfreeze [] none) ∨
      (k = 2 ∧ q = proposalOfA 2 .retire [1] (some .withdrawn)) ∨
      (k = 3 ∧ q = proposalOfA 3 .retire [1] (some .withdrawn)) := by
    intro k q h
    fin_cases k <;> simp_all [proposed, up]
  refine ⟨by decide, ?_, ?_, by decide, ⟨by decide, ?_⟩, ⟨by decide, by decide⟩, fun h => by cases h⟩
  · intro k q h
    rcases get k q h with ⟨_, rfl⟩ | ⟨_, rfl⟩ | ⟨_, rfl⟩ | ⟨_, rfl⟩ <;> decide
  · intro j k q r hj hk hn
    rcases get j q hj with ⟨rfl, rfl⟩ | ⟨rfl, rfl⟩ | ⟨rfl, rfl⟩ | ⟨rfl, rfl⟩ <;>
      rcases get k r hk with ⟨rfl, rfl⟩ | ⟨rfl, rfl⟩ | ⟨rfl, rfl⟩ | ⟨rfl, rfl⟩ <;>
      first | rfl | exact absurd hn (by decide)
  · intro k
    constructor
    · intro h
      have : k = 2 ∨ k = 3 := by revert h; revert k; decide
      rcases this with rfl | rfl
      · exact ⟨_, .withdrawn, rfl, rfl⟩
      · exact ⟨_, .withdrawn, rfl, rfl⟩
    · rintro ⟨q, o, h, ho⟩
      rcases get k q h with ⟨rfl, rfl⟩ | ⟨rfl, rfl⟩ | ⟨rfl, rfl⟩ | ⟨rfl, rfl⟩
      · cases ho
      · cases ho
      · decide
      · decide

theorem witness_ConfirmAppliesTheHeldCommand :
    (proposed (some .withdrawn) [2, 3]).ProposalInv ∧
    ((asking .b 0x52 [255, 255] (proposed (some .withdrawn) [2, 3])).Granted .b 0x52 [255, 255] ∧
      (proposalOfA 65535 .clear [1] none).number = (255 : Byte) ++ (255 : Byte) ∧
      (proposed (some .withdrawn) [2, 3]).proposals[(0 : Fin 4)] = some (proposalOfA 65535 .clear [1] none)) ∧
    (asking .a 0x52 [255, 255] (proposed (some .withdrawn) [2, 3])).Granted .a 0x52 [255, 255] ∧
    ((asking .b 0x52 [0, 1] (proposed (some .withdrawn) [2, 3])).Granted .b 0x52 [0, 1] ∧
      (proposed (some .withdrawn) [2, 3]).proposals[(1 : Fin 4)] = some (proposalOfA 1 .unfreeze [] none)) ∧
    ((asking .b 0x52 [0, 2] (proposed (some .withdrawn) [2, 3])).Granted .b 0x52 [0, 2] ∧
      (proposed (some .withdrawn) [2, 3]).proposals[(2 : Fin 4)] =
        some (proposalOfA 2 .retire [1] (some .withdrawn))) ∧
    ((asking .b 0x52 [0, 0] frozen).Granted .b 0x52 [0, 0] ∧ ∀ k : Fin 4, frozen.proposals[k] = none) ∧
    (portAndCode (.clear .a) = some (.a, 0x13) ∧ structuralCode 0x13 = some .clear ∧
      (asking .a 0x13 [1] stocked).Granted .a 0x13 [1] ∧ stocked.frozen = false ∧ blockOk 0x13 [1] = true) :=
  ⟨proposed_inv, ⟨granted_asking _ _ _ _ rfl rfl, by decide, rfl⟩, granted_asking _ _ _ _ rfl rfl,
    ⟨granted_asking _ _ _ _ rfl rfl, rfl⟩, ⟨granted_asking _ _ _ _ rfl rfl, rfl⟩,
    ⟨granted_asking _ _ _ _ rfl rfl, by decide⟩, rfl, by decide, granted_asking _ _ _ _ rfl rfl, rfl, by decide⟩

theorem witness_WithdrawAndReadProposalAreJudgedByTheirSlot :
    (proposed (some .withdrawn) [2, 3]).ProposalInv ∧ frozen.madeOrder = [] ∧
    (asking .b 0x53 [0, 0] (proposed (some .withdrawn) [2, 3])).Granted .b 0x53 [0, 0] ∧
    (asking .b 0x53 [0, 3] (proposed (some .withdrawn) [2, 3])).Granted .b 0x53 [0, 3] ∧
    (asking .b 0x53 [255, 255] (proposed (some .withdrawn) [2, 3])).Granted .b 0x53 [255, 255] ∧
    (asking .a 0x53 [255, 255] (proposed (some .withdrawn) [2, 3])).Granted .a 0x53 [255, 255] ∧
    (asking .a 0x54 [0, 0] (proposed (some .withdrawn) [2, 3])).Granted .a 0x54 [0, 0] ∧
    (asking .a 0x54 [0, 4] (proposed (some .withdrawn) [2, 3])).Granted .a 0x54 [0, 4] ∧
    (asking .b 0x54 [0, 3] (proposed (some .withdrawn) [2, 3])).Granted .b 0x54 [0, 3] ∧
    (asking .a 0x54 [0, 3] (proposed (some .withdrawn) [2, 3])).Granted .a 0x54 [0, 3] ∧
    (proposed (some .withdrawn) [2, 3]).proposals[(3 : Fin 4)] =
      some (proposalOfA 3 .retire [1] (some .withdrawn)) :=
  ⟨proposed_inv, rfl, granted_asking _ _ _ _ rfl rfl, granted_asking _ _ _ _ rfl rfl, granted_asking _ _ _ _ rfl rfl,
    granted_asking _ _ _ _ rfl rfl, granted_asking _ _ _ _ rfl rfl, granted_asking _ _ _ _ rfl rfl,
    granted_asking _ _ _ _ rfl rfl, granted_asking _ _ _ _ rfl rfl, rfl⟩

theorem witness_TimeBaseTicksSecondsAndExpiries :
    up.ready = true ∧ State.reset.ready = false ∧ State.reset.live = true ∧
    (stocked.ready = true ∧ stocked.autosaveInterval ≠ 0 ∧ stocked.intervalTimer = 0) ∧
    ((proposed (some .withdrawn) [2, 3]).ready = true ∧ (proposed (some .withdrawn) [2, 3]).ProposalInv ∧
      (proposed (some .withdrawn) [2, 3]).proposals[(0 : Fin 4)] = some (proposalOfA 65535 .clear [1] none) ∧
      (proposalOfA 65535 .clear [1] none).outcome = none ∧ (proposalOfA 65535 .clear [1] none).remaining = 0) :=
  ⟨rfl, rfl, rfl, by decide, rfl, proposed_inv, rfl, rfl, rfl⟩

/-! ## Witnesses: saves and the power-fail warning -/

/-- `up` with image A VALID and active. -/
def imaged : State :=
  { up with imageInfo := ⟨⟨.valid, 1, Causes.ofPort, 0⟩, ImageInfo.blank⟩, activeImage := some .a }

/-- A save of port B in flight, in its first stage. -/
def theSave : Save :=
  { target := .b, image := imageOf imaged 2 Causes.ofPort, generation := 2, causes := Causes.ofPort,
    requesters := PortSet.only .b, note := ⟨[], false⟩, stage := .erasing, cancelsOlder := false }

/-- The pending save of port C. -/
def thePending : PendingSave := ⟨PortSet.only .c, Causes.ofPort⟩

/-- `imaged` with a save in flight. -/
def saving (sv : Save) (w : Option PendingSave) : State := { imaged with mode := .saving sv w }

/-- `imaged` in this retention state. -/
def inMode (m : RetentionMode) : State := { imaged with mode := m }

theorem witness_SaveRequestsAreHandledByTheStateTheyFind :
    (asking .a 0x60 [] (inMode .faulted)).Granted .a 0x60 [] ∧
    ((asking .a 0x60 [] { inMode .idle with pfwAsserted := true }).Granted .a 0x60 [] ∧
      (inMode .idle).mode ≠ .faulted) ∧
    (asking .a 0x60 [] (inMode .held)).Granted .a 0x60 [] ∧
    ((asking .a 0x60 [] (inMode .idle)).Granted .a 0x60 [] ∧ (inMode .idle).pfwAsserted = false) ∧
    (asking .a 0x60 [] (inMode .auditing)).Granted .a 0x60 [] ∧
    ((asking .a 0x60 [] (saving theSave none)).Granted .a 0x60 [] ∧
      (asking .a 0x60 [] (saving theSave (some thePending))).Granted .a 0x60 [] ∧
      (saving theSave (some thePending)).mode = .saving theSave (some thePending)) :=
  ⟨granted_asking _ _ _ _ rfl rfl, ⟨granted_asking _ _ _ _ rfl rfl, by decide⟩, granted_asking _ _ _ _ rfl rfl,
    ⟨granted_asking _ _ _ _ rfl rfl, rfl⟩, granted_asking _ _ _ _ rfl rfl, granted_asking _ _ _ _ rfl rfl,
    granted_asking _ _ _ _ rfl rfl, rfl⟩

theorem witness_SavesStartWithTheirSnapshot : up.activeImage = none ∧ imaged.activeImage = some .a := ⟨rfl, rfl⟩

theorem witness_SavesEndInSuccessOrFailure :
    ((saving theSave none).mode = .saving theSave none ∧ theSave.stage = .erasing) ∧
    (saving theSave (some thePending)).mode = .saving theSave (some thePending) ∧
    ((saving theSave none).pfwAsserted = false ∧ { saving theSave none with pfwAsserted := true }.pfwAsserted = true) ∧
    ((saving theSave none).failures + 1 < 3 ∧ 3 ≤ { saving theSave none with failures := 2 }.failures + 1) :=
  ⟨⟨rfl, rfl⟩, rfl, ⟨rfl, rfl⟩, by decide, by decide⟩

theorem witness_ThePowerFailWarningStartsASaveAndHolds :
    (up.live = true ∧ up.pfwAsserted = false ∧ up.mode = .idle) ∧ (inMode .auditing).mode = .auditing ∧
    (saving theSave none).mode = .saving theSave none ∧
    (saving theSave (some thePending)).mode = .saving theSave (some thePending) ∧
    (State.reset.live = true ∧ State.reset.mode = .loading) ∧ (inMode .held).mode = .held ∧
    (inMode .faulted).mode = .faulted ∧ { inMode .held with pfwAsserted := true }.pfwAsserted = true :=
  ⟨⟨rfl, rfl, rfl⟩, rfl, rfl, rfl, ⟨rfl, rfl⟩, rfl, rfl, rfl⟩

/-! ## Witnesses: the audit sweep -/

theorem witness_AuditIsAcceptedOrRefusedInOrder :
    (asking .a 0x63 [1] (inMode .faulted)).Granted .a 0x63 [1] ∧ (asking .a 0x63 [2] (inMode .held)).Granted .a 0x63 [2] ∧
    (asking .a 0x63 [1] (inMode .auditing)).Granted .a 0x63 [1] ∧
    (asking .a 0x63 [1] (saving theSave none)).Granted .a 0x63 [1] ∧
    ((asking .a 0x63 [1] up).Granted .a 0x63 [1] ∧ up.activeImage = none) ∧
    ((asking .a 0x63 [2] imaged).Granted .a 0x63 [2] ∧ imaged.activeImage ≠ none ∧
      ¬ (imaged.audit.status = .abortedBySave ∨ imaged.audit.status = .abortedByChange)) ∧
    (asking .a 0x63 [1] imaged).Granted .a 0x63 [1] ∧
    ((asking .a 0x63 [2] { imaged with audit := { Audit.reset with status := .abortedByChange, pointer := 7 } }).Granted .a
      0x63 [2]) :=
  ⟨granted_asking _ _ _ _ rfl rfl, granted_asking _ _ _ _ rfl rfl, granted_asking _ _ _ _ rfl rfl,
    granted_asking _ _ _ _ rfl rfl, ⟨granted_asking _ _ _ _ rfl rfl, rfl⟩,
    ⟨granted_asking _ _ _ _ rfl rfl, by decide, by decide⟩, granted_asking _ _ _ _ rfl rfl,
    granted_asking _ _ _ _ rfl rfl⟩

theorem witness_SegmentsJudgeEachPositionOnce :
    ((inMode .auditing).mode = .auditing ∧ (inMode .auditing).activeImage = some .a ∧
      (inMode .auditing).audit.pointer < 7) ∧
    ({ Audit.reset with pointer := 7 } : Audit).pointer = 7 ∧
    stands 0 (some { recordOf e1 with check := 0 }) = false ∧
    (stands 0 (some (recordOf e1)) = true ∧ findEntry (recordOf e1).id [] = none ∧
      findEntry (recordOf e1).id [e1] = some e1 ∧
      (recordOf e1).trip ≠ (recordOf { e1 with trip := 250 }).trip) ∧
    (stands 1 (some (recordOf e1)) = false ∧ stands 4 (some (recordOf e5)) = true ∧
      stands 253 (some (recordOf e254)) = true ∧ stands 0 none = false) := by decide

/-! ## Witnesses: frames -/

/-- `up` with a frame open on port B since before the release of RST_N. -/
def ignoring : State := { up with ports := markOpenFrames (PortSet.only .b) up.ports }

theorem witness_CommandFramesAreJudgedInOrder :
    up.live = true ∧ (up.ports.get .a).ignoreFrame = false ∧
    (List.length [(1 : Byte), 2] + 1 < 4) ∧
    (58 < ([0, 0, 59].getD 2 (0 : Byte)).toNat ∧ 4 ≤ List.length [(0 : Byte), 0, 59] + 1) ∧
    (([0, 0, 58].getD 2 (0 : Byte)).toNat ≤ 58 ∧ List.length [(0 : Byte), 0, 58] + 1 < 58 + 5) ∧
    (0 + 5 < List.length [(0 : Byte), 1, 0, 0, 0] + 1) ∧
    (List.length [(0 : Byte), 1, 0, 0] + 1 = 0 + 5 ∧ 0xC3 + sum8 [0, 1, 0, 0] ≠ 0) ∧
    (0xC3 + sum8 ([0, 1, 0] ++ [] ++ [0x3C]) = 0 ∧ up.slot .a = Slot.reset ∧
      (asking .a 1 [] up).slot .a ≠ Slot.reset) ∧
    (((58 : Byte).toNat = (List.replicate 58 (0 : Byte)).length) ∧ (List.replicate 58 (0 : Byte)).length ≤ 58) ∧
    (framePort (.commandFrame .a []) = some .a ∧ framePort (.badKindFrame .c none 0) = some .c ∧
      framePort (.badKindFrame .b (some 0) 1) = some .b) ∧
    ({ up with rstAsserted := true }.live = false ∧ ignoring.live = true ∧ (ignoring.ports.get .b).ignoreFrame = true) := by
  decide

/-- `up` with an answer in port A's slot. -/
def answeredA : State := (asking .a 0x01 [] up).answered .a ⟨.ok, [0x4E]⟩

theorem witness_PollFetchAndUnknownKinds :
    up.live = true ∧ (up.ports.get .a).ignoreFrame = false ∧
    ((answeredA.slot .a).state = .done ∧ (answeredA.slot .a).response = some ⟨.ok, [0x4E]⟩ ∧
      List.length [(0x4E : Byte)] + 5 ≤ 6 ∧ 5 < List.length [(0x4E : Byte)] + 5) ∧
    ((asking .a 0x01 [] up).slot .a).state = .waiting ∧ (up.slot .a).state = .empty ∧
    (0x00 : Byte) ∉ [(0xC3 : Byte), 0xA5, 0x5A, 0x99] := by decide

theorem witness_PortResetEmptiesItsPort :
    up.live = true ∧ (up.ports.get .c).ignoreFrame = false ∧ (0x65 : Byte) ≠ 0x66 ∧
    (∀ sv w, up.mode ≠ .saving sv w) ∧ (saving theSave none).mode = .saving theSave none ∧
    ((saving theSave (some thePending)).mode = .saving theSave (some thePending) ∧
      ¬ ∃ q, (thePending.requesters.set .c false).get q = true) ∧
    ((asking .a 0x13 [1] frozen).Granted .a 0x13 [1] ∧ portAndCode (.clear .a) = some (.a, 0x13)) ∧
    ((asking .c 0x65 [] up).Granted .c 0x65 [] ∧ ∀ d, portAndCode d ≠ some (.c, 0x65)) ∧
    ((asking .a 0x60 [] up).slot .a).code ∈ [(0x60 : Byte), 0x22] ∧ State.reset.ready = false ∧ up.nextGrant ≠ some .a :=
  ⟨rfl, rfl, by decide, fun sv w h => (by cases h), rfl, ⟨rfl, by rintro ⟨q, h⟩; cases q <;> cases h⟩,
    ⟨granted_asking _ _ _ _ rfl rfl, rfl⟩, ⟨granted_asking _ _ _ _ rfl rfl, no_row_has_code_65 .c⟩, by decide, rfl,
    by decide⟩

/-- R91's second order: the reset inside the request of a CLEAR whose recomputation worsens the verdict leaves the slot
EMPTY and the notice PENDING. -/
theorem test_port_reset_inside_a_request_leaves_the_later_change_noticed :
    (match exec (.portReset .a ⟨[0x66], true⟩) (asking .a 0x13 [1] tripping) with
      | .next t => (t.slot .a, (t.ports.get .a).frameResult, t.notices.get .a, t.verdict) =
          (Slot.reset, .resetDone, ⟨.worsen, .pending⟩, .service)
      | .fault _ => False
      | .refused _ => False) := by
  show (_, _, _, _) = _
  decide +kernel

/-! ## Witnesses: reset and load -/

theorem witness_ResetsBringEveryBlockToItsResetState : (saving theSave none).powered = true := rfl

theorem witness_CutSavesLeaveALoadableImage :
    ((⟨⟨.valid, 1, Causes.none, 0⟩, ⟨.valid, 0xFFFFFFFF, Causes.none, 0⟩⟩ : PerImage ImageInfo).a.state = .valid) ∧
    ImageInfo.blank.state ≠ .valid ∧ (saving theSave none).mode = .saving theSave none ∧ theSave.stage = .erasing ∧
    theSave.cancelsOlder = false ∧
    (saving { theSave with stage := .marked, cancelsOlder := true } none).mode =
      .saving { theSave with stage := .marked, cancelsOlder := true } none ∧
    Image.erased.judge = .blank ∧ (imageOf stocked 1 Causes.ofPort).judge = .valid ∧
    ({ Image.erased with header := .cancelled } : Image).judge = .invalid ∧
    ∃ h, (imageOf stocked 1 Causes.ofPort).header = .written h :=
  ⟨rfl, by decide, rfl, rfl, rfl, rfl, rfl, by decide +kernel, rfl, _, rfl⟩

/-- The part after a power-on that found `stocked` in image A, port B's command waiting. -/
def loading : State :=
  asking .b 0x01 []
    { State.reset with
      array := ⟨imageOf stocked 1 Causes.ofPort, Image.erased⟩
      imageInfo := ⟨⟨.valid, 1, Causes.ofPort, 3⟩, ImageInfo.blank⟩
      activeImage := some .a }

theorem witness_LoadsEndInReady :
    (State.reset.live = true ∧ State.reset.mode = .loading ∧ State.reset.loadBuilt = false ∧
      State.reset.verdict = .nominal ∧ State.reset.activeImage = none) ∧
    (loading.live = true ∧ loading.mode = .loading ∧ loading.loadBuilt = false ∧ loading.verdict = .nominal ∧
      loading.activeImage = some .a) ∧
    { loading with loadBuilt := true }.loadBuilt = true ∧ up.mode ≠ .loading ∧
    { State.reset with rstAsserted := true }.live = false ∧
    (imageOf stocked 1 Causes.ofPort).used 3 = [some (recordOf e1), some (recordOf e5), some (recordOf e254)] ∧
    { State.reset with rstAsserted := true }.rstAsserted = true ∧ up.rstAsserted = false := by decide

/-- What the test of a load looks at. -/
def loadedView (s : State) : RetentionMode × List Byte × Word16 × Option Byte × Nat × SlotState :=
  (s.mode, s.table.map (fun e => e.id), s.lifetime, (s.inputs[(0 : Fin 4)]).binding, s.intervalTimer, (s.slot .b).state)

theorem test_a_load_gives_the_saved_table_and_settings_back :
    (match exec (.loadEnd .ready) loading with
      | .next t => loadedView t = (.idle, [1, 5, 254], 60000, some 1, 86400000, .waiting)
      | .fault _ => False
      | .refused _ => False) := by
  show loadedView (State.finishLoad loading.buildLoad) = _
  decide +kernel

/-! ## Witnesses: frames of the commands -/

theorem witness_FramesAndReadsLeaveEverythingElse :
    (∃ t, exec (.poll .a 9) up = .next t) ∧ (∃ t, exec (.identify .a) up = .next t) ∧
    (∃ t, exec (.ack .a) up = .next t) ∧ (∃ t, exec (.audit .a) up = .next t) :=
  ⟨⟨_, rfl⟩, ⟨_, rfl⟩, ⟨_, rfl⟩, _, rfl⟩

theorem witness_EntryCommandsLeaveTheRest :
    (∃ t, exec (.define .a) up = .next t) ∧ up.frozen = false ∧ frozen.frozen = true ∧
    (∃ t, exec (.report .a) frozen = .next t) ∧ ∃ t, exec (.pulseFold 0) up = .next t :=
  ⟨⟨_, rfl⟩, rfl, rfl, ⟨_, rfl⟩, _, rfl⟩

theorem witness_WindowAndSettingCommandsLeaveTheRest :
    (∃ t, exec (.setWindow .a) up = .next t) ∧ (∃ t, exec (.setAutosave .a) frozen = .next t) ∧
    (∃ t, exec (.freeze .a) frozen = .next t) ∧ (∃ t, exec (.presetWindow .a) frozen = .next t) ∧
    (∃ t, exec (.windowTickDecrement 7) up = .next t) ∧ ∃ t, exec (.windowEventDecrement ⟨3, 7⟩) up = .next t :=
  ⟨⟨_, rfl⟩, ⟨_, rfl⟩, ⟨_, rfl⟩, ⟨_, rfl⟩, ⟨_, rfl⟩, _, rfl⟩

theorem witness_RetentionAndTimeEventsLeaveTheRest :
    (∃ t, exec (.saveEnd false) (saving theSave none) = .next t) ∧ (∃ t, exec .pfwRelease up = .next t) ∧
    (∃ t, exec (.auditSegmentEnd []) (inMode .auditing) = .next t) ∧ ∃ t, exec .tick up = .next t :=
  ⟨⟨_, rfl⟩, ⟨_, rfl⟩, ⟨_, rfl⟩, _, rfl⟩

/-- `up` with commands waiting on ports A and B, A granted last. -/
def contested : State := { asking .b 0x13 [1] (asking .a 0x01 [] up) with lastGranted := some .a }

theorem witness_TheArbiterGrantsInTurn :
    ((contested.slot .b).state = .waiting ∧ contested.lastGranted = some .a ∧ (Port.b ≠ .a)) ∧
    ((up.slot .a).state ≠ .waiting ∧ (up.slot .b).state ≠ .waiting ∧ (up.slot .c).state ≠ .waiting) ∧
    ((asking .c 0x13 [1] stocked).Granted .c 0x13 [1] ∧ portAndCode (.clear .c) = some (.c, 0x13)) ∧
    (State.reset.ready = false ∧ contested.nextGrant ≠ some .a ∧ (contested.slot .b).code ≠ 0x11) ∧
    portAndCode (.clear .b) = some (.b, (contested.slot .b).code) :=
  ⟨by decide, by decide, ⟨granted_asking _ _ _ _ rfl rfl, rfl⟩, by decide, by decide⟩

/-! ## Worked values of the manual -/

/-- The bytes of 10.6's DEFINE frame after its kind byte. -/
def example106 : List Byte :=
  [0x07, 0x10, 0x0B, 0x28, 0x02, 0x02, 0x03, 0xB4, 0x00, 0x04, 0x00, 0x28, 0x04, 0x02, 0x06]

theorem test_example_106_frame_is_accepted : judgeCommand example106 .empty = .accepted := by decide

theorem test_example_106_define_creates_entry_40 :
    (parseDefine (acceptCommand example106).params).map (fun x => (x.id, x.trip, x.step, x.kind)) =
      some (40, 180, 4, .rate 40 4 2 0 0 none 0) := by decide

theorem test_example_106_response_check_byte :
    responseBytes ⟨.ok, [0x28]⟩ 0x07 0x10 = [0x00, 0x07, 0x10, 0x01, 0x28, 0xC0] ∧
    responseBytes ⟨.tableFull, [0x28]⟩ 0x07 0x10 = [0x14, 0x07, 0x10, 0x01, 0x28, 0xAC] := by decide

theorem test_example_11_grades : rateGrade 48 40 4 = 198 ∧ rateGrade 140 40 4 = 175 ∧ trippedAt 180 175 = true ∧
    trippedAt 0 175 = false ∧ trippedAt 255 200 = true := by decide

theorem test_load_of_an_erased_array_ends_in_idle :
    (match exec (.loadEnd .ready) State.reset with
      | .next t => t.mode = .idle ∧ t.ready = true ∧ t.table = []
      | .fault _ => False
      | .refused _ => False) := ⟨rfl, rfl, rfl⟩

end Sys2Proof.Tests
end

section
/-! PROOFS. What the operations on one entry keep: its id, the counter it is bound to, its bounds. -/

namespace Sys2Proof.Machine

/-! ## Grades lie within their bounds (R24, R25, R28) -/

/-- A grade that falls from 200 and stops at 1. -/
theorem fallingGrade_bounds (n : Nat) : 1 ≤ max 1 (200 - n) ∧ max 1 (200 - n) ≤ 200 := by omega

theorem countGrade_bounds (total : Word32) (step : Word16) :
    1 ≤ countGrade total step ∧ countGrade total step ≤ 200 := fallingGrade_bounds _

theorem rateGrade_bounds (sample : Word32) (allowance step : Word16) :
    1 ≤ rateGrade sample allowance step ∧ rateGrade sample allowance step ≤ 250 := by
  unfold rateGrade
  split
  · omega
  · exact ⟨(fallingGrade_bounds _).1, Nat.le_trans (fallingGrade_bounds _).2 (by decide)⟩

theorem levelGrade_bounds (reading allowance step : Word16) :
    1 ≤ levelGrade reading allowance step ∧ levelGrade reading allowance step ≤ 200 := by
  unfold levelGrade
  split
  · decide
  · exact fallingGrade_bounds _

/-! ## The bounds of an entry, with the kind's own part under a name -/

/-- The bounds that the kind sets on the grade and on its own counting fields (R26, R30). -/
def KindPart.Allows : KindPart → Nat → Prop
  | .count _, g => g ≤ 200
  | .level _ _, g => g ≤ 200
  | .rate _ _ settle _ _ _ seen, g => g ≤ 250 ∧ settle ≤ 15 ∧ seen ≤ 255 ∧ (seen < settle → g = 200)

theorem Entry.ok_iff (e : Entry) :
    e.Ok ↔ (1 ≤ e.id.toNat ∧ e.id.toNat ≤ 254) ∧ (e.trip ≤ 250 ∨ e.trip = 255) ∧ e.step ≠ 0 ∧
      (1 ≤ e.lowMark ∧ e.lowMark ≤ e.grade ∧ e.lowMark ≤ 200) ∧ e.kind.Allows e.grade := by
  unfold Entry.Ok KindPart.Allows
  cases e.kind <;> rfl

@[simp] theorem Entry.writeGrade_kind (e : Entry) (g : Nat) : (e.writeGrade g).kind = e.kind := rfl

@[simp] theorem Entry.judge_kind (e : Entry) : e.judge.kind = e.kind := rfl

/-- The ever-tripped mark has no part in the bounds. -/
theorem Entry.ok_judge {e : Entry} : e.judge.Ok ↔ e.Ok := by rw [ok_iff, ok_iff]; rfl

/-- The unsaved mark has no part in the bounds. -/
theorem Entry.ok_unsaved {e : Entry} (b : Bool) : ({ e with unsaved := b } : Entry).Ok ↔ e.Ok := by
  rw [ok_iff, ok_iff]

/-- A written grade that the kind allows keeps the bounds: the low mark follows it down (R30). -/
theorem Entry.ok_writeGrade {e : Entry} {g : Nat} (hid : 1 ≤ e.id.toNat ∧ e.id.toNat ≤ 254)
    (htrip : e.trip ≤ 250 ∨ e.trip = 255) (hstep : e.step ≠ 0) (hlow : 1 ≤ e.lowMark ∧ e.lowMark ≤ 200)
    (hg : 1 ≤ g) (hk : e.kind.Allows g) : (e.writeGrade g).Ok := by
  refine (Entry.ok_iff _).mpr ⟨hid, htrip, hstep, ?_, hk⟩
  simp only [Entry.writeGrade, Entry.judge]
  omega

/-! ## What every write of an entry keeps -/

/-- `x` can stand for `e` after a write: the same id, kind and counter, and within its bounds if `e` is. -/
structure Entry.Becomes (e x : Entry) : Prop where
  id : x.id = e.id
  level : x.kind.isLevel = e.kind.isLevel
  bound : ∀ w, x.boundTo w = e.boundTo w
  ok : e.Ok → x.Ok

theorem Entry.Becomes.refl (e : Entry) : e.Becomes e := ⟨rfl, rfl, fun _ => rfl, fun h => h⟩

theorem Entry.Becomes.trans {e x y : Entry} (h : e.Becomes x) (h' : x.Becomes y) : e.Becomes y :=
  ⟨h'.id.trans h.id, h'.level.trans h.level, fun w => (h'.bound w).trans (h.bound w), fun ho => h'.ok (h.ok ho)⟩

/-- A RATE entry is bound to its window (R63). -/
theorem Entry.boundTo_rate {e : Entry} {a : Word16} {w : Fin 8} {n : Nat} {total tally : Word32}
    {last : Option Word32} {seen : Nat} (h : e.kind = .rate a w n total tally last seen) (v : Fin 8) :
    e.boundTo v = (w == v) := by
  simp only [Entry.boundTo, h]

theorem Entry.boundTo_count {e : Entry} {total : Word32} (h : e.kind = .count total) (v : Fin 8) :
    e.boundTo v = false := by
  simp only [Entry.boundTo, h]

theorem Entry.boundTo_level {e : Entry} {a : Word16} {r : Option Word16} (h : e.kind = .level a r) (v : Fin 8) :
    e.boundTo v = false := by
  simp only [Entry.boundTo, h]

theorem Entry.becomes_unsaved (e : Entry) (b : Bool) : e.Becomes { e with unsaved := b } :=
  ⟨rfl, rfl, fun _ => rfl, (Entry.ok_unsaved b).mpr⟩

theorem Entry.becomes_observe (v : Word16) (e : Entry) : e.Becomes (e.observe v) := by
  unfold Entry.observe
  split
  case h_1 total hk =>
    refine ⟨rfl, by simp [hk, KindPart.isLevel], fun w => ?_, fun ho => ?_⟩
    · rw [Entry.boundTo_count hk, Entry.boundTo_count rfl]
    · obtain ⟨hid, htrip, hstep, hlow, -⟩ := e.ok_iff.mp ho
      have hg := countGrade_bounds (satAdd32 total v.toNat) e.step
      exact Entry.ok_writeGrade hid htrip hstep ⟨hlow.1, hlow.2.2⟩ hg.1 hg.2
  case h_2 a w n total tally last seen hk =>
    refine ⟨rfl, by simp [hk, KindPart.isLevel], fun v => ?_, fun ho => ?_⟩
    · rw [Entry.boundTo_rate hk, Entry.boundTo_rate rfl]
    · obtain ⟨hid, htrip, hstep, hlow, hkind⟩ := e.ok_iff.mp ho
      rw [hk] at hkind
      exact (Entry.ok_iff _).mpr ⟨hid, htrip, hstep, hlow, hkind⟩
  case h_3 a r hk =>
    refine ⟨rfl, by simp [hk, KindPart.isLevel], fun w => ?_, fun ho => ?_⟩
    · rw [Entry.boundTo_level hk, Entry.boundTo_level rfl]
    · obtain ⟨hid, htrip, hstep, hlow, -⟩ := e.ok_iff.mp ho
      have hg := levelGrade_bounds v a e.step
      exact Entry.ok_writeGrade hid htrip hstep ⟨hlow.1, hlow.2.2⟩ hg.1 hg.2

/-- A close of a RATE entry (R70): its grade is the sample's once settled, and its own until then. -/
theorem Entry.takeSample_rate {e : Entry} {a : Word16} {w : Fin 8} {n : Nat} {total tally : Word32}
    {last : Option Word32} {seen : Nat} (hk : e.kind = .rate a w n total tally last seen) :
    e.takeSample =
      let sampled : Entry := { e with kind := .rate a w n total 0 (some tally) (min 255 (seen + 1)) }
      if n ≤ min 255 (seen + 1) then sampled.writeGrade (rateGrade tally a e.step) else sampled.judge := by
  simp only [Entry.takeSample, hk]

theorem Entry.becomes_takeSample (e : Entry) : e.Becomes e.takeSample := by
  cases hk : e.kind with
  | count total => simp only [Entry.takeSample, hk]; exact .refl e
  | level a r => simp only [Entry.takeSample, hk]; exact .refl e
  | rate a w n total tally last seen =>
    rw [Entry.takeSample_rate hk]
    have hbound : ∀ x : Entry, x.kind = .rate a w n total 0 (some tally) (min 255 (seen + 1)) →
        ∀ v, x.boundTo v = e.boundTo v := fun x hx v => by rw [Entry.boundTo_rate hk, Entry.boundTo_rate hx]
    have hallows : e.Ok → n ≤ 15 ∧ seen ≤ 255 ∧ (seen < n → e.grade = 200) ∧ e.grade ≤ 250 := fun ho => by
      obtain ⟨-, -, -, -, hkind⟩ := e.ok_iff.mp ho
      rw [hk] at hkind
      obtain ⟨hg, hn, hs, hu⟩ := hkind
      exact ⟨hn, hs, hu, hg⟩
    dsimp only
    split
    · next hsettled =>
      refine ⟨rfl, by simp [hk, KindPart.isLevel], hbound _ rfl, fun ho => ?_⟩
      obtain ⟨hid, htrip, hstep, hlow, -⟩ := e.ok_iff.mp ho
      obtain ⟨hn, -⟩ := hallows ho
      have hg := rateGrade_bounds tally a e.step
      exact Entry.ok_writeGrade hid htrip hstep ⟨hlow.1, hlow.2.2⟩ hg.1
        ⟨hg.2, hn, Nat.min_le_left _ _, fun h => by omega⟩
    · next hunsettled =>
      refine ⟨rfl, by simp [hk, KindPart.isLevel], hbound _ rfl, fun ho => Entry.ok_judge.mpr ?_⟩
      obtain ⟨hid, htrip, hstep, hlow, -⟩ := e.ok_iff.mp ho
      obtain ⟨hn, hs, hu, hg⟩ := hallows ho
      exact (Entry.ok_iff _).mpr ⟨hid, htrip, hstep, hlow, hg, hn, Nat.min_le_left _ _, fun _ => hu (by omega)⟩

/-- An early look writes nothing but a lower grade, into a settled RATE entry (R27, R72). -/
theorem Entry.lookEarly_some {e x : Entry} (h : e.lookEarly = some x) :
    ∃ a w n total tally last seen, e.kind = .rate a w n total tally last seen ∧ n ≤ seen ∧
      rateGrade tally a e.step < e.grade ∧ rateGrade tally a e.step ≤ freshGrade ∧
      x = e.writeGrade (rateGrade tally a e.step) := by
  cases hk : e.kind with
  | count total => simp [Entry.lookEarly, hk] at h
  | level a r => simp [Entry.lookEarly, hk] at h
  | rate a w n total tally last seen =>
    simp only [Entry.lookEarly, hk, Option.ite_none_right_eq_some, Option.some.injEq] at h
    obtain ⟨⟨hn, hlt, hle⟩, hx⟩ := h
    exact ⟨a, w, n, total, tally, last, seen, rfl, hn, hlt, hle, hx.symm⟩

theorem Entry.becomes_lookEarly {e x : Entry} (h : e.lookEarly = some x) : e.Becomes x := by
  obtain ⟨a, w, n, total, tally, last, seen, hk, hn, -, -, rfl⟩ := Entry.lookEarly_some h
  refine ⟨rfl, rfl, fun _ => rfl, fun ho => ?_⟩
  obtain ⟨hid, htrip, hstep, hlow, hkind⟩ := e.ok_iff.mp ho
  rw [hk] at hkind
  obtain ⟨-, hsettle, hseen, -⟩ := hkind
  have hg := rateGrade_bounds tally a e.step
  refine Entry.ok_writeGrade hid htrip hstep ⟨hlow.1, hlow.2.2⟩ hg.1 ?_
  rw [hk]
  exact ⟨hg.2, hsettle, hseen, fun h => by omega⟩

theorem Entry.becomes_zeroTally (e : Entry) : e.Becomes e.zeroTally := by
  cases hk : e.kind with
  | count total => simp only [Entry.zeroTally, hk]; exact .refl e
  | level a r => simp only [Entry.zeroTally, hk]; exact .refl e
  | rate a w n total tally last seen =>
    simp only [Entry.zeroTally, hk]
    refine ⟨rfl, by simp [hk, KindPart.isLevel], fun v => ?_, fun ho => ?_⟩
    · rw [Entry.boundTo_rate hk, Entry.boundTo_rate rfl]
    · obtain ⟨hid, htrip, hstep, hlow, hkind⟩ := e.ok_iff.mp ho
      rw [hk] at hkind
      exact (Entry.ok_iff _).mpr ⟨hid, htrip, hstep, hlow, hkind⟩

/-- A refreshed entry is within its bounds if its definition fields are (R9, R16). -/
theorem Entry.ok_refresh {e : Entry} (hid : 1 ≤ e.id.toNat ∧ e.id.toNat ≤ 254)
    (htrip : e.trip ≤ 250 ∨ e.trip = 255) (hstep : e.step ≠ 0) (hk : e.kind.fresh.Allows 200) : e.refresh.Ok :=
  Entry.ok_judge.mpr ((Entry.ok_iff _).mpr ⟨hid, htrip, hstep,
    ⟨by simp [freshGrade], Nat.le_refl _, Nat.le_refl _⟩, hk⟩)

theorem KindPart.fresh_isLevel (k : KindPart) : k.fresh.isLevel = k.isLevel := by cases k <;> rfl

theorem KindPart.fresh_allows {k : KindPart} {g : Nat} (h : k.Allows g) : k.fresh.Allows 200 := by
  cases k with
  | count total => exact Nat.le_refl _
  | level a r => exact Nat.le_refl _
  | rate a w n total tally last seen =>
    obtain ⟨-, hn, -, -⟩ := h
    exact ⟨by decide, hn, by decide, fun _ => rfl⟩

theorem Entry.boundTo_refresh (e : Entry) (w : Fin 8) : e.refresh.boundTo w = e.boundTo w := by
  cases hk : e.kind <;> simp [Entry.refresh, Entry.judge, Entry.boundTo, KindPart.fresh, hk]

theorem Entry.becomes_refresh (e : Entry) : e.Becomes e.refresh := by
  refine ⟨rfl, e.kind.fresh_isLevel, e.boundTo_refresh, fun ho => ?_⟩
  obtain ⟨hid, htrip, hstep, -, hkind⟩ := e.ok_iff.mp ho
  exact Entry.ok_refresh hid htrip hstep (KindPart.fresh_allows hkind)

theorem Entry.becomes_foldMarked {e x : Entry} (h : e.foldMarked = some x) : e.Becomes x := by
  have hx : x = e.observe 1 := by
    unfold Entry.foldMarked at h
    split at h
    · exact (Option.some.inj h).symm
    · simp only [Option.ite_none_left_eq_some, Option.some.injEq] at h
      exact h.2.symm
    · cases h
  exact hx ▸ e.becomes_observe 1

theorem Entry.becomes_foldUnmarked (e : Entry) : e.Becomes e.foldUnmarked := by
  unfold Entry.foldUnmarked
  split
  · split
    · exact e.becomes_observe 1
    · exact .refl e
  all_goals exact .refl e

theorem SaveNote.becomes_clearMark (n : SaveNote) (e : Entry) : e.Becomes (n.clearMark e) := by
  unfold SaveNote.clearMark
  split
  · exact e.becomes_unsaved false
  · exact .refl e

/-- A marked write of an entry is a write of it. -/
theorem Entry.becomes_markedBy {f : Entry → Option Entry} {e : Entry} (h : ∀ x, f e = some x → e.Becomes x) :
    e.Becomes (markedBy f e) := by
  unfold markedBy
  split
  · next x hx => exact (h x hx).trans (x.becomes_unsaved true)
  · exact .refl e

/-! ## TUNE on one entry (R13, R14) -/

theorem TuneParams.kindFor_isLevel {x : TuneParams} {k k' : KindPart} (h : x.kindFor k = some k') :
    k'.isLevel = k.isLevel := by
  cases k with
  | count total =>
    simp only [TuneParams.kindFor, Option.ite_none_right_eq_some, Option.some.injEq] at h
    rw [← h.2]
  | rate a w n total tally last seen => cases h; rfl
  | level a r =>
    simp only [TuneParams.kindFor, Option.ite_none_right_eq_some, Option.some.injEq] at h
    rw [← h.2]; rfl

/-- The kind part a TUNE writes names the counter of the entry it was made for (R13: the window is no field of TUNE). -/
theorem TuneParams.boundTo_tune {x : TuneParams} {e : Entry} {k : KindPart} (h : x.kindFor e.kind = some k)
    (e' : Entry) (w : Fin 8) : (x.tune k e').boundTo w = e.boundTo w := by
  cases hk : e.kind with
  | count total =>
    simp only [TuneParams.kindFor, hk, Option.ite_none_right_eq_some, Option.some.injEq] at h
    rw [Entry.boundTo_count hk, Entry.boundTo_count (e := x.tune k e') (total := total) h.2.symm]
  | rate a w' n total tally last seen =>
    simp only [TuneParams.kindFor, hk, Option.some.injEq] at h
    rw [Entry.boundTo_rate hk, Entry.boundTo_rate (e := x.tune k e') h.symm]
  | level a r =>
    simp only [TuneParams.kindFor, hk, Option.ite_none_right_eq_some, Option.some.injEq] at h
    rw [Entry.boundTo_level hk, Entry.boundTo_level (e := x.tune k e') h.2.symm]

/-- The ranges that TUNE's check leaves its fields in (R13). -/
structure TuneParams.InRange (x : TuneParams) : Prop where
  trip : x.trip ≤ 250 ∨ x.trip = 255
  step : x.step ≠ 0
  settle : x.settle ≤ 15

/-- The grade a TUNE gives is one that the kind allows, from counting fields within their bounds (R14, R26). -/
theorem Entry.tunedGrade_allowed (e : Entry) (h : ∀ a w n total tally last seen,
      e.kind = .rate a w n total tally last seen → n ≤ 15 ∧ seen ≤ 255) :
    1 ≤ e.tunedGrade ∧ e.kind.Allows e.tunedGrade := by
  cases hk : e.kind with
  | count total => simp only [Entry.tunedGrade, hk]; exact countGrade_bounds _ _
  | level a r =>
    cases r with
    | none => simp only [Entry.tunedGrade, hk]; exact ⟨by decide, Nat.le_refl 200⟩
    | some r => simp only [Entry.tunedGrade, hk]; exact levelGrade_bounds _ _ _
  | rate a w n total tally last seen =>
    obtain ⟨hn, hs⟩ := h _ _ _ _ _ _ _ hk
    have hfresh : 1 ≤ freshGrade ∧ (KindPart.rate a w n total tally last seen).Allows freshGrade :=
      ⟨by decide, by decide, hn, hs, fun _ => rfl⟩
    cases last with
    | none => simpa only [Entry.tunedGrade, hk] using hfresh
    | some x =>
      simp only [Entry.tunedGrade, hk]
      split
      · next hsettled =>
        have hg := rateGrade_bounds x a e.step
        exact ⟨hg.1, hg.2, hn, hs, fun h => absurd h (Nat.not_lt.mpr hsettled)⟩
      · exact hfresh

theorem TuneParams.becomes_tune {x : TuneParams} (hx : x.InRange) {e : Entry} {k : KindPart}
    (h : x.kindFor e.kind = some k) : e.Becomes (x.tune k e) := by
  refine ⟨rfl, TuneParams.kindFor_isLevel h, TuneParams.boundTo_tune h e, fun ho => ?_⟩
  obtain ⟨hid, -, -, hlow, hkind⟩ := e.ok_iff.mp ho
  have hallowed := Entry.tunedGrade_allowed
    { e with cls := x.cls, reporters := x.reporters, trip := x.trip, step := x.step, kind := k }
    (fun a w n total tally last seen hk => by
      subst hk
      cases hk : e.kind with
      | rate a' w' n' total' tally' last' seen' =>
        rw [hk] at hkind
        simp only [TuneParams.kindFor, hk, Option.some.injEq, KindPart.rate.injEq] at h
        obtain ⟨-, -, rfl, -, -, -, rfl⟩ := h
        obtain ⟨-, -, hs, -⟩ := hkind
        exact ⟨hx.settle, hs⟩
      | count total' => simp [TuneParams.kindFor, hk] at h
      | level a' r' => simp [TuneParams.kindFor, hk] at h)
  exact Entry.ok_writeGrade hid hx.trip hx.step ⟨hlow.1, hlow.2.2⟩ hallowed.1 hallowed.2

end Sys2Proof.Machine
end

section
/-! PROOFS. The commands of 10.2 under one roof: each is the grant of its port, its request, and the answer. -/

namespace Sys2Proof.Machine

/-- The request that a command of 10.2 other than SAVE makes at the table when it is granted. -/
def commandRequest : Instr → List Byte → State → State × Answer
  | .identify p => fun ps t => t.direct noIdent parseNone (fun _ u => (u, identifyAnswer p)) ps
  | .define p => requestDefine p
  | .retire p => requestRetire p
  | .tune p => requestTune p
  | .clear p => requestClear p
  | .readEntry _ => fun ps t => t.direct (identAt 0) parseId (fun id u => (u, readEntryAnswer u id)) ps
  | .list _ => fun ps t => t.direct noIdent parseAfter (fun after u => (u, listAnswer u after)) ps
  | .report p => requestReport p
  | .readVerdict _ => fun ps t => t.direct noIdent parseAfter (fun after u => (u, readVerdictAnswer u after)) ps
  | .ack p => requestAck p
  | .setNotice p => requestSetNotice p
  | .readHistory _ => fun ps t => t.direct noIdent parseByte (fun skip u => (u, readHistoryAnswer u skip)) ps
  | .setWindow p => requestSetWindow p
  | .joinPair p => requestJoinPair p
  | .startWindow p => requestStartWindow p
  | .stopWindow p => requestStopWindow p
  | .presetWindow p => requestPresetWindow p
  | .readWindow _ => fun ps t => t.direct (identAt 0) parseCounter (fun w u => (u, readWindowAnswer u w)) ps
  | .bindInput p => requestBindInput p
  | .readInput _ => fun ps t => t.direct (identAt 0) parseInput (fun i u => (u, readInputAnswer u i)) ps
  | .freeze p => requestFreeze p
  | .unfreeze p => requestUnfreeze p
  | .confirm p => requestConfirm p
  | .withdraw p => requestWithdraw p
  | .readProposal p => requestReadProposal p
  | .setAutosave p => requestSetAutosave p
  | .readRetention _ => fun ps t => t.direct noIdent parseNone (fun _ u => (u, readRetentionAnswer u)) ps
  | .audit p => requestAudit p
  | .readAudit _ => fun ps t => t.direct noIdent parseNone (fun _ u => (u, readAuditAnswer u)) ps
  | _ => fun _ t => (t, ⟨.unknownCommand, []⟩)

/-- A command of 10.2 other than SAVE is its request, taken at its grant. -/
theorem exec_command {c : Instr} {p : Port} {code : Byte} (h : portAndCode c = some (p, code)) (hc : code ≠ 0x60)
    (s : State) : exec c s = .next (s.takeCommand p (· == code) (commandRequest c)) := by
  cases c <;> cases h
  case save => exact absurd rfl hc
  all_goals rfl

/-- SAVE alone has the code 60h. -/
theorem eq_save_of_code {c : Instr} {p : Port} (h : portAndCode c = some (p, 0x60)) : c = .save p := by
  cases c <;> cases h
  rfl

/-- The commands of 10.2 on port `p`, in the order of their codes. -/
def commandsOf (p : Port) : List Instr :=
  [.identify p, .define p, .retire p, .tune p, .clear p, .readEntry p, .list p, .report p, .readVerdict p, .ack p,
   .setNotice p, .readHistory p, .setWindow p, .joinPair p, .startWindow p, .stopWindow p, .presetWindow p,
   .readWindow p, .bindInput p, .readInput p, .freeze p, .unfreeze p, .confirm p, .withdraw p, .readProposal p,
   .save p, .setAutosave p, .readRetention p, .audit p, .readAudit p]

theorem portAndCode_commandsOf (p : Port) :
    (commandsOf p).map portAndCode = knownCodes.map (fun code => some (p, code)) := rfl

/-- The codes the part knows are those of the commands of 10.2. -/
theorem mem_knownCodes_iff (p : Port) (code : Byte) :
    code ∈ knownCodes ↔ ∃ c, portAndCode c = some (p, code) := by
  constructor
  · intro h
    have hmem : some (p, code) ∈ (commandsOf p).map portAndCode := by
      rw [portAndCode_commandsOf]
      exact List.mem_map.mpr ⟨code, h, rfl⟩
    obtain ⟨c, -, hc⟩ := List.mem_map.mp hmem
    exact ⟨c, hc⟩
  · rintro ⟨c, hc⟩
    cases c <;> cases hc <;> decide

/-- The effect of a command's request, as `effectOf` may name it by the number of its code. -/
theorem effect_of_codeNumber {c : Instr} {p : Port} {code : Byte} {n : Nat} (h : code.toNat = n)
    (hc : portAndCode c = some (p, BitVec.ofNat 8 n)) (hn : n ≠ 0x60) (ps : List Byte) (s : State) :
    ∃ c', portAndCode c' = some (p, code) ∧ code ≠ 0x60 ∧
      (commandRequest c ps s).1 = (commandRequest c' ps s).1 := by
  have hcode : BitVec.ofNat 8 n = code := by rw [← h, BitVec.ofNat_toNat, BitVec.setWidth_eq]
  exact ⟨c, hcode ▸ hc, fun he => hn (h ▸ congrArg BitVec.toNat he), rfl⟩

/-- What a request that a PORT RESET meets still does (R158): the effect of its command, or nothing. -/
theorem effectOf_cases (p : Port) (code : Byte) (ps : List Byte) (s : State) :
    effectOf p code ps s = s ∨ ∃ c, portAndCode c = some (p, code) ∧ code ≠ 0x60 ∧
      effectOf p code ps s = (commandRequest c ps s).1 := by
  unfold effectOf
  split
  · exact .inr (effect_of_codeNumber (c := .define p) ‹_› rfl (by decide) ps s)
  · exact .inr (effect_of_codeNumber (c := .retire p) ‹_› rfl (by decide) ps s)
  · exact .inr (effect_of_codeNumber (c := .tune p) ‹_› rfl (by decide) ps s)
  · exact .inr (effect_of_codeNumber (c := .clear p) ‹_› rfl (by decide) ps s)
  · exact .inr (effect_of_codeNumber (c := .report p) ‹_› rfl (by decide) ps s)
  · exact .inr (effect_of_codeNumber (c := .ack p) ‹_› rfl (by decide) ps s)
  · exact .inr (effect_of_codeNumber (c := .setWindow p) ‹_› rfl (by decide) ps s)
  · exact .inr (effect_of_codeNumber (c := .joinPair p) ‹_› rfl (by decide) ps s)
  · exact .inr (effect_of_codeNumber (c := .startWindow p) ‹_› rfl (by decide) ps s)
  · exact .inr (effect_of_codeNumber (c := .stopWindow p) ‹_› rfl (by decide) ps s)
  · exact .inr (effect_of_codeNumber (c := .presetWindow p) ‹_› rfl (by decide) ps s)
  · exact .inr (effect_of_codeNumber (c := .bindInput p) ‹_› rfl (by decide) ps s)
  · exact .inr (effect_of_codeNumber (c := .freeze p) ‹_› rfl (by decide) ps s)
  · exact .inr (effect_of_codeNumber (c := .unfreeze p) ‹_› rfl (by decide) ps s)
  · exact .inr (effect_of_codeNumber (c := .confirm p) ‹_› rfl (by decide) ps s)
  · exact .inr (effect_of_codeNumber (c := .withdraw p) ‹_› rfl (by decide) ps s)
  · exact .inr (effect_of_codeNumber (c := .readProposal p) ‹_› rfl (by decide) ps s)
  · exact .inr (effect_of_codeNumber (c := .setAutosave p) ‹_› rfl (by decide) ps s)
  · exact .inr (effect_of_codeNumber (c := .audit p) ‹_› rfl (by decide) ps s)
  · exact .inl rfl

end Sys2Proof.Machine
end

section
/-! PROOFS. What a command can do to the table, the bindings, the joined flags and what a load or a save brings in: a
run of a few kinds of moves. The invariants on these are then proved move by move, not command by command. -/

namespace Sys2Proof.Machine

/-! ## Vectors written at one place or through a function -/

@[simp] theorem getElem_vec4 {α : Type} (f : Fin 4 → α) (i : Fin 4) : (vec4 f)[i] = f i := by
  fin_cases i <;> rfl

theorem vector_getElem_set {α : Type} {n : Nat} (v : Vector α n) (i j : Fin n) (x : α) :
    (v.set i x)[j] = if j = i then x else v[j] := by
  simp only [Fin.getElem_fin, Vector.getElem_set, Fin.ext_iff, eq_comm]

/-! ## Steps that leave the table and what hangs on it -/

/-- `t` holds the table, the joined flags, the bindings and the active image of `s`, with its entry counts; a save in
flight in `t` is one of `s`, or has just taken its snapshot. -/
structure State.Keeps (s t : State) : Prop where
  table : t.table = s.table
  joined : t.joined = s.joined
  binding : ∀ i : Fin 4, (t.inputs[i]).binding = (s.inputs[i]).binding
  active : t.activeImage = s.activeImage
  count : ∀ i, (t.imageInfo.get i).count = (s.imageInfo.get i).count
  image : ∀ sv w, t.mode = .saving sv w →
    sv.image.positions.length = s.table.length ∨ ∃ sv' w', s.mode = .saving sv' w' ∧ sv.image = sv'.image

/-- Equal fields are kept. -/
theorem State.Keeps.of_eq {s t : State} (htable : t.table = s.table) (hjoined : t.joined = s.joined)
    (hinputs : t.inputs = s.inputs) (hactive : t.activeImage = s.activeImage) (hinfo : t.imageInfo = s.imageInfo)
    (hmode : t.mode = s.mode) : s.Keeps t :=
  ⟨htable, hjoined, fun _ => by rw [hinputs], hactive, fun _ => by rw [hinfo],
    fun sv w h => .inr ⟨sv, w, hmode ▸ h, rfl⟩⟩

theorem State.Keeps.refl (s : State) : s.Keeps s := .of_eq rfl rfl rfl rfl rfl rfl

theorem State.Keeps.trans {s t u : State} (h : s.Keeps t) (h' : t.Keeps u) : s.Keeps u where
  table := h'.table.trans h.table
  joined := h'.joined.trans h.joined
  binding i := (h'.binding i).trans (h.binding i)
  active := h'.active.trans h.active
  count i := (h'.count i).trans (h.count i)
  image sv w hm := by
    obtain hl | ⟨sv', w', hm', hi⟩ := h'.image sv w hm
    · exact .inl (hl.trans (congrArg List.length h.table))
    · rw [hi]; exact h.image sv' w' hm'

/-- A change of the mode that brings in no new snapshot. -/
theorem State.keeps_mode {s : State} {m : RetentionMode}
    (h : ∀ sv w, m = .saving sv w → ∃ sv' w', s.mode = .saving sv' w' ∧ sv.image = sv'.image) :
    s.Keeps { s with mode := m } :=
  ⟨rfl, rfl, fun _ => rfl, rfl, fun _ => rfl, fun sv w hm => .inr (h sv w hm)⟩

theorem RetentionMode.withdrawIds_saving {m : RetentionMode} {gone : Byte → Bool} {sv : Save} {w : Option PendingSave}
    (h : m.withdrawIds gone = .saving sv w) : ∃ sv' w', m = .saving sv' w' ∧ sv.image = sv'.image := by
  cases m <;> cases h
  exact ⟨_, _, rfl, rfl⟩

theorem RetentionMode.withdrawSettings_saving {m : RetentionMode} {sv : Save} {w : Option PendingSave}
    (h : m.withdrawSettings = .saving sv w) : ∃ sv' w', m = .saving sv' w' ∧ sv.image = sv'.image := by
  cases m <;> cases h
  exact ⟨_, _, rfl, rfl⟩

theorem RetentionMode.removePort_saving {m : RetentionMode} {p : Port} {sv : Save} {w : Option PendingSave}
    (h : m.removePort p = .saving sv w) : ∃ sv' w', m = .saving sv' w' ∧ sv.image = sv'.image := by
  cases m <;> cases h
  exact ⟨_, _, rfl, rfl⟩

theorem State.keeps_withdrawIds (s : State) (gone : Byte → Bool) :
    s.Keeps { s with mode := s.mode.withdrawIds gone } :=
  State.keeps_mode (fun _ _ => RetentionMode.withdrawIds_saving)

theorem State.keeps_markSettings (s : State) : s.Keeps s.markSettings :=
  ⟨rfl, rfl, fun _ => rfl, rfl, fun _ => rfl, fun _ _ h => .inr (RetentionMode.withdrawSettings_saving h)⟩

theorem State.keeps_placeAnswer (s : State) (p : Port) (a : Answer) : s.Keeps (s.placeAnswer p a) := by
  rw [s.placeAnswer_ports p a]; exact .of_eq rfl rfl rfl rfl rfl rfl

theorem State.keeps_placeAnswers (s : State) (who : PortSet) (a : Answer) : s.Keeps (s.placeAnswers who a) := by
  rw [s.placeAnswers_ports who a]; exact .of_eq rfl rfl rfl rfl rfl rfl

theorem State.keeps_grant (s : State) (p : Port) : s.Keeps (s.grant p) := .of_eq rfl rfl rfl rfl rfl rfl

/-- The image state of one image written, its entry count kept. -/
theorem imageInfo_count_set (x : PerImage ImageInfo) (i j : ImageId) (v : ImageInfo) (h : v.count = (x.get i).count) :
    ((x.set i v).get j).count = (x.get j).count := by
  rw [perImage_get_set]
  split
  · next hj => rw [h, hj]
  · rfl

/-- A save takes its snapshot of the table it finds (R124). -/
theorem State.keeps_startSave (s : State) (requesters : PortSet) (causes : Causes) :
    s.Keeps (s.startSave requesters causes) where
  table := rfl
  joined := rfl
  binding _ := rfl
  active := rfl
  count j := imageInfo_count_set _ _ j _ rfl
  image sv w h := by
    cases h
    exact .inl (List.length_map recordOf)

theorem State.keeps_abortAudit (s : State) (status : AuditStatus) : s.Keeps (s.abortAudit status) :=
  ⟨rfl, rfl, fun _ => rfl, rfl, fun _ => rfl, fun _ _ h => by cases h⟩

theorem State.keeps_requestSave (s : State) (c : Causes) : s.Keeps (s.requestSave c) := by
  obtain h | ⟨-, h⟩ | ⟨-, h⟩ | ⟨sv, w, hm, h⟩ := s.requestSave_cases c <;> rw [h]
  · exact .refl s
  · exact s.keeps_startSave _ _
  · exact (s.keeps_abortAudit _).trans (State.keeps_startSave _ _ _)
  · exact State.keeps_mode (fun _ _ h' => by cases h'; exact ⟨sv, w, hm, rfl⟩)

theorem State.keeps_changeVerdict (s : State) (v : Verdict) (c : Cause) : s.Keeps (s.changeVerdict v c) :=
  .of_eq rfl rfl rfl rfl rfl rfl

theorem State.keeps_recompute (s : State) (c : Cause) : s.Keeps (s.recompute c) := by
  obtain ⟨-, h⟩ | ⟨-, -, h⟩ | ⟨-, -, h⟩ := s.recompute_cases c <;> rw [h]
  · exact .refl s
  · exact s.keeps_changeVerdict _ _
  · exact (s.keeps_changeVerdict _ _).trans (State.keeps_requestSave _ _)

theorem State.keeps_definitionChange (s : State) : s.Keeps s.definitionChange := by
  obtain ⟨-, h⟩ | ⟨-, h⟩ := s.definitionChange_cases <;> rw [h]
  · exact s.keeps_abortAudit _
  · exact .refl s

theorem State.keeps_requestPortSave (s : State) (p : Port) : s.Keeps (s.requestPortSave p) := by
  unfold State.requestPortSave
  split
  · exact s.keeps_placeAnswer _ _
  · split
    · exact s.keeps_placeAnswer _ _
    · exact s.keeps_startSave _ _
  · split
    · exact s.keeps_placeAnswer _ _
    · exact (s.keeps_abortAudit _).trans (State.keeps_startSave _ _ _)
  · next hm =>
    split
    · exact s.keeps_placeAnswer _ _
    · exact State.keeps_mode (fun _ _ h => by cases h; exact ⟨_, _, hm, rfl⟩)
  · exact s.keeps_placeAnswer _ _
  · exact s.keeps_placeAnswer _ _

/-- Proposals have no part in the table until they are confirmed. -/
theorem State.keeps_closeProposal (s : State) (k : Fin 4) (o : ProposalOutcome) : s.Keeps (s.closeProposal k o) := by
  unfold State.closeProposal
  split
  · exact .of_eq rfl rfl rfl rfl rfl rfl
  · exact .refl s

theorem State.keeps_freeProposal (s : State) (k : Fin 4) : s.Keeps (s.freeProposal k) :=
  .of_eq rfl rfl rfl rfl rfl rfl

theorem State.keeps_makeProposal (s : State) (p : Port) (code : StructuralCode) (ps : List Byte) :
    s.Keeps (s.makeProposal p code ps).1 := by
  unfold State.makeProposal
  split
  · exact .refl s
  · exact .of_eq rfl rfl rfl rfl rfl rfl

/-- A walk of kept steps is kept. -/
theorem State.keeps_foldl {α : Type} (f : State → α → State) (h : ∀ (t : State) x, t.Keeps (f t x)) (l : List α)
    (s : State) : s.Keeps (l.foldl f s) := by
  induction l generalizing s with
  | nil => exact .refl s
  | cons x l ih => exact (h s x).trans (ih (f s x))

theorem State.keeps_discardOpen (s : State) : s.Keeps s.discardOpen := by
  refine State.keeps_foldl _ (fun t k => ?_) _ s
  split
  · exact t.keeps_closeProposal _ _
  · exact .refl t

theorem State.keeps_freeProposalsOf (s : State) (p : Port) : s.Keeps (s.freeProposalsOf p) := by
  refine State.keeps_foldl _ (fun t k => ?_) _ s
  split
  · split
    · exact t.keeps_freeProposal _
    · exact .refl t
  · exact .refl t

theorem State.keeps_resetPort (s : State) (p : Port) : s.Keeps (s.resetPort p) := by
  have hmode : s.Keeps { s with mode := s.mode.removePort p } :=
    State.keeps_mode (fun _ _ => RetentionMode.removePort_saving)
  have hunit : ∀ t : State, t.Keeps ((t.setNotice p Notice.reset).setSlot p Slot.reset) :=
    fun _ => .of_eq rfl rfl rfl rfl rfl rfl
  exact (hmode.trans (State.keeps_freeProposalsOf _ p)).trans (hunit _)

/-- An input written with its binding as it was. -/
theorem State.keeps_setInput {s : State} {i : Fin 4} {e : EventInput} (h : e.binding = (s.inputs[i]).binding) :
    s.Keeps (s.setInput i e) := by
  refine ⟨rfl, rfl, fun j => ?_, rfl, fun _ => rfl, fun sv w hm => .inr ⟨sv, w, hm, rfl⟩⟩
  rw [State.setInput_inputs, vector_getElem_set]
  split
  · next hj => rw [h, hj]
  · rfl

theorem State.keeps_setCounter (s : State) (w : Fin 8) (c : Counter) : s.Keeps (s.setCounter w c) :=
  .of_eq rfl rfl rfl rfl rfl rfl

theorem State.keeps_setPort (s : State) (p : Port) (u : PortUnit) : s.Keeps (s.setPort p u) :=
  .of_eq rfl rfl rfl rfl rfl rfl

/-! ## The moves -/

/-- The ranges that DEFINE's check leaves its fields in (R7). -/
structure DefineParams.InRange (x : DefineParams) : Prop where
  id : 1 ≤ x.id.toNat ∧ x.id.toNat ≤ 254
  trip : x.trip ≤ 250 ∨ x.trip = 255
  step : x.step ≠ 0
  kind : x.kind.fresh.Allows 200

/-- One move on the table, the bindings, the joined flags or the active image, with what the command has checked before
it. -/
inductive State.Move (s : State) : State → Prop where
  | keep {t : State} (h : s.Keeps t) : s.Move t
  | rewrite {g : Entry → Entry} (h : ∀ e ∈ s.table, e.Becomes (g e)) : s.Move { s with table := s.table.map g }
  | define {x : DefineParams} (hx : x.InRange) (hid : findEntry x.id s.table = none)
      (hlen : s.table.length < Config.entries) (hw : s.badWindow x.kind = false) : s.Move (s.addEntry x.entry)
  | retire (id : Byte) : s.Move ((s.dropEntry id).unbindAll id)
  | tune {x : TuneParams} {e : Entry} {k : KindPart} (hx : x.InRange) (he : findEntry x.id s.table = some e)
      (hk : x.kindFor e.kind = some k) : s.Move (s.writeEntry x.id (x.tune k))
  | bind {x : BindParams} (h : ∀ id, x.binding = some id → ∃ e ∈ s.table, e.id = id ∧ e.kind.isLevel = false) :
      s.Move (s.bind x)
  | join {k : Fin 4} {on : Bool} (h : on = true → s.hasBound (highOf k) = false) :
      s.Move { s with joined := s.joined.set k on }
  | saved {sv : Save} {w : Option PendingSave} (h : s.mode = .saving sv w) : s.Move (s.saveSucceeds sv)
  | restarted (array : PerImage Image) : s.Move (s.restart array)
  | loaded : s.Move s.loadImage

/-- Some moves, one after another. -/
def State.Moves : State → State → Prop := Relation.ReflTransGen State.Move

theorem State.Moves.refl (s : State) : s.Moves s := Relation.ReflTransGen.refl

theorem State.Moves.trans {s t u : State} (h : s.Moves t) (h' : t.Moves u) : s.Moves u :=
  Relation.ReflTransGen.trans h h'

theorem State.Move.moves {s t : State} (h : s.Move t) : s.Moves t := Relation.ReflTransGen.single h

theorem State.Keeps.moves {s t : State} (h : s.Keeps t) : s.Moves t := (State.Move.keep h).moves

/-- What every move keeps, a run of moves keeps. -/
theorem State.Moves.induct {P : State → Prop} (h : ∀ s t : State, s.Move t → P s → P t) {s t : State} (hm : s.Moves t)
    (hs : P s) : P t := by
  induction hm with
  | refl => exact hs
  | tail _ hmove ih => exact h _ _ hmove ih

/-! ## What the operations of the table are made of -/

theorem State.moves_writeEntries {s : State} {f : Entry → Option Entry}
    (h : ∀ e ∈ s.table, ∀ x, f e = some x → e.Becomes x) : s.Moves (s.writeEntries f) :=
  (State.Move.rewrite (fun e he => Entry.becomes_markedBy (h e he))).moves.trans
    (State.keeps_withdrawIds { s with table := s.table.map (markedBy f) } _).moves

theorem State.moves_writeEntry {f : Entry → Entry} (h : ∀ e : Entry, e.Becomes (f e)) (s : State) (id : Byte) :
    s.Moves (s.writeEntry id f) := by
  refine State.moves_writeEntries (fun e _ x hx => ?_)
  simp only [Option.ite_none_right_eq_some, Option.some.injEq] at hx
  exact hx.2 ▸ h e

theorem State.moves_zeroTallies (s : State) (w : Fin 8) : s.Moves (s.zeroTallies w) := by
  refine (State.Move.rewrite (fun e _ => ?_)).moves
  split
  · exact e.becomes_zeroTally
  · exact .refl e

theorem State.moves_foldEntry (s : State) (id : Byte) : s.Moves (s.foldEntry id) := by
  refine (State.Move.rewrite (g := fun e => if e.id = id then e.foldUnmarked else e) (fun e _ => ?_)).moves.trans
    (State.moves_writeEntries (fun e _ x hx => ?_))
  · split
    · exact e.becomes_foldUnmarked
    · exact .refl e
  · simp only [Option.ite_none_right_eq_some] at hx
    exact Entry.becomes_foldMarked hx.2

theorem moves_applyItems (items : List (Byte × Word16)) (s : State) : s.Moves (applyItems s items) := by
  induction items generalizing s with
  | nil => exact .refl s
  | cons item items ih => exact (State.moves_writeEntry (Entry.becomes_observe item.2) s item.1).trans (ih _)

/-! ## What the commands of 10.2 do to the table -/

theorem moves_applyDefine {x : DefineParams} (hx : x.InRange) (s : State) : s.Moves (applyDefine x s).1 := by
  unfold applyDefine
  split
  · exact .refl s
  · next hid =>
    split
    · exact .refl s
    · next hlen =>
      split
      · exact .refl s
      · next hw =>
        exact (State.Move.define hx (by simpa using hid) (Nat.not_le.mp hlen) (by simpa using hw)).moves.trans
          ((State.keeps_definitionChange _).trans (State.keeps_recompute _ _)).moves

theorem moves_applyRetire (id : Byte) (s : State) : s.Moves (applyRetire id s).1 := by
  unfold applyRetire
  split
  · exact .refl s
  · exact (State.Move.retire id).moves.trans
      (((State.keeps_markSettings _).trans (State.keeps_definitionChange _)).trans (State.keeps_recompute _ _)).moves

theorem moves_applyTune {x : TuneParams} (hx : x.InRange) (s : State) : s.Moves (applyTune x s).1 := by
  unfold applyTune
  split
  · exact .refl s
  · next e he =>
    split
    · exact .refl s
    · next k hk =>
      exact (State.Move.tune hx he hk).moves.trans
        ((State.keeps_definitionChange _).trans (State.keeps_recompute _ _)).moves

theorem moves_applyClear (id : Byte) (s : State) : s.Moves (applyClear id s).1 := by
  unfold applyClear
  split
  · exact .refl s
  · exact (State.moves_writeEntry Entry.becomes_refresh s id).trans (State.keeps_recompute _ _).moves

theorem moves_applyReport (p : Port) (items : List (Byte × Word16)) (s : State) :
    s.Moves (applyReport p items s).1 := by
  unfold applyReport
  split
  · exact .refl s
  · exact (moves_applyItems items s).trans (State.keeps_recompute _ _).moves

theorem moves_applySetWindow (x : SetWindowParams) (s : State) : s.Moves (applySetWindow x s).1 := by
  unfold applySetWindow
  dsimp only
  split
  · exact .refl s
  · exact (((State.keeps_setCounter _ _ _).trans (State.keeps_setCounter _ _ _)).trans
      (State.keeps_markSettings _)).moves

theorem moves_applyJoinPair (x : Fin 4 × Bool) (s : State) : s.Moves (applyJoinPair x s).1 := by
  unfold applyJoinPair
  dsimp only
  split
  · exact .refl s
  · split
    · exact .refl s
    · next hbound =>
      have hfree : x.2 = true → s.hasBound (highOf x.1) = false := fun hon => by simpa [hon] using hbound
      refine State.Moves.trans ?_ (State.keeps_markSettings _).moves
      refine State.Moves.trans ?_ (State.moves_zeroTallies _ _)
      refine State.Moves.trans ?_ (State.keeps_setCounter _ _ _).moves
      exact ((s.keeps_setCounter _ _).trans (State.keeps_setCounter _ _ _)).moves.trans
        (State.Move.join (s := (s.setCounter _ _).setCounter _ _) hfree).moves

theorem State.keeps_setRunning (s : State) (w : Fin 8) (on : Bool) : s.Keeps (s.setRunning w on) :=
  (State.keeps_setCounter _ _ _).trans (State.keeps_markSettings _)

theorem moves_applyPresetWindow (w : Fin 8) (s : State) : s.Moves (applyPresetWindow w s).1 :=
  (State.keeps_setCounter _ _ _).moves.trans (State.moves_zeroTallies _ _)

theorem moves_applyBind (x : BindParams) (s : State) : s.Moves (applyBind x s).1 := by
  have hbind : ∀ {id : Byte} {e : Entry}, x.binding = some id → findEntry id s.table = some e →
      e.kind.isLevel = false → s.Moves (s.bind x) := by
    intro id e hb he hl
    refine (State.Move.bind (fun id' hid' => ?_)).moves
    obtain rfl : id = id' := Option.some.inj (hb.symm.trans hid')
    obtain ⟨hmem, hid⟩ := mem_of_findEntry he
    exact ⟨e, hmem, hid, hl⟩
  unfold applyBind
  split
  · next hb => exact (State.Move.bind (fun id hid => by rw [hb] at hid; cases hid)).moves
  · next id hb =>
    split
    · exact .refl s
    · next e he =>
      split
      · exact .refl s
      · next hk => exact hbind hb he (by rw [hk]; rfl)
      · next hk => exact hbind hb he (by rw [hk]; rfl)

/-- Settings of the part as a whole have no part in the table. -/
theorem State.Keeps.settings {s t : State} (h : s.Keeps t) : s.Keeps t.markSettings := h.trans t.keeps_markSettings

theorem keeps_applySetAutosave (x : Bool × Word16) (s : State) : s.Keeps (applySetAutosave x s).1 :=
  State.Keeps.settings (.of_eq rfl rfl rfl rfl rfl rfl)

theorem keeps_applyUnfreeze (s : State) : s.Keeps (applyUnfreeze () s).1 :=
  State.Keeps.settings (.of_eq rfl rfl rfl rfl rfl rfl)

theorem keeps_applyFreeze (l : Word16) (s : State) : s.Keeps (applyFreeze l s).1 := by
  unfold applyFreeze
  split
  · exact .refl s
  · exact State.Keeps.settings (.of_eq rfl rfl rfl rfl rfl rfl)

/-! ## Range checks -/

theorem tripOk_iff (x : Byte) : tripOk x = true ↔ x.toNat ≤ 250 ∨ x.toNat = 255 := by
  simp [tripOk, ← BitVec.toNat_inj]

theorem idOk_iff (x : Byte) : idOk x = true ↔ 1 ≤ x.toNat ∧ x.toNat ≤ 254 := by simp [idOk]

/-- A kind part that DEFINE's check lets pass takes the grade 200 (R7, R26). -/
theorem parseKind_allows {kind window settle : Byte} {a : Word16} {k : KindPart}
    (h : parseKind kind a window settle = some k) : k.fresh.Allows 200 := by
  unfold parseKind at h
  split at h
  · simp only [Option.ite_none_right_eq_some, Option.some.injEq] at h
    exact h.2 ▸ Nat.le_refl 200
  · split at h
    · simp only [Option.ite_none_right_eq_some, Option.some.injEq] at h
      exact h.2 ▸ ⟨by decide, h.1, by decide, fun _ => rfl⟩
    · cases h
  · simp only [Option.ite_none_right_eq_some, Option.some.injEq] at h
    exact h.2 ▸ Nat.le_refl 200
  · cases h

theorem parseDefine_inRange {ps : List Byte} {x : DefineParams} (h : parseDefine ps = some x) : x.InRange := by
  unfold parseDefine at h
  split at h
  · split at h
    · next hkind =>
      simp only [Option.ite_none_right_eq_some, Option.some.injEq] at h
      obtain ⟨⟨hid, -, htrip, hstep⟩, rfl⟩ := h
      exact ⟨(idOk_iff _).mp hid, (tripOk_iff _).mp htrip, hstep, parseKind_allows hkind⟩
    · cases h
  · cases h

theorem parseTune_inRange {ps : List Byte} {x : TuneParams} (h : parseTune ps = some x) : x.InRange := by
  unfold parseTune at h
  split at h
  · split at h
    · simp only [Option.ite_none_right_eq_some, Option.some.injEq] at h
      obtain ⟨⟨-, -, htrip, hstep, hsettle⟩, rfl⟩ := h
      exact ⟨(tripOk_iff _).mp htrip, hstep, hsettle⟩
    · cases h
  · cases h

/-! ## From an effect to its request -/

theorem State.moves_direct {α : Type} {s : State} {ident : List Byte → List Byte} {parse : List Byte → Option α}
    {apply : α → State → State × Answer} {ps : List Byte} (h : ∀ x, parse ps = some x → s.Moves (apply x s).1) :
    s.Moves (s.direct ident parse apply ps).1 := by
  cases hp : parse ps with
  | none => rw [s.direct_bad ident parse apply hp]; exact .refl s
  | some x => rw [s.direct_ok ident parse apply hp]; exact h x hp

theorem State.moves_structural {α : Type} {s : State} {p : Port} {code : StructuralCode}
    {ident : List Byte → List Byte} {parse : List Byte → Option α} {apply : α → State → State × Answer}
    {ps : List Byte} (h : ∀ x, parse ps = some x → s.Moves (apply x s).1) :
    s.Moves (s.structural p code ident parse apply ps).1 := by
  cases hp : parse ps with
  | none => rw [s.structural_bad p code ident parse apply hp]; exact .refl s
  | some x =>
    cases hf : s.frozen with
    | false => rw [s.structural_unfrozen p code ident parse apply hp hf]; exact h x hp
    | true => rw [s.structural_frozen p code ident parse apply hp hf]; exact (s.keeps_makeProposal p code ps).moves

theorem moves_applyHeldWith {α : Type} {s : State} {ident : List Byte → List Byte} {parse : List Byte → Option α}
    {apply : α → State → State × Answer} {ps : List Byte} (h : ∀ x, parse ps = some x → s.Moves (apply x s).1) :
    s.Moves (applyHeldWith ident parse apply ps s).1 := by
  unfold applyHeldWith
  split
  · next x hp => exact h x hp
  · exact .refl s

/-- A held command moves what it would move at its own grant (R104). -/
theorem moves_applyHeld (code : StructuralCode) (ps : List Byte) (s : State) : s.Moves (applyHeld code ps s).1 := by
  cases code with
  | define => exact moves_applyHeldWith (fun _ h => moves_applyDefine (parseDefine_inRange h) s)
  | retire => exact moves_applyHeldWith (fun id _ => moves_applyRetire id s)
  | tune => exact moves_applyHeldWith (fun _ h => moves_applyTune (parseTune_inRange h) s)
  | clear => exact moves_applyHeldWith (fun id _ => moves_applyClear id s)
  | setWindow => exact moves_applyHeldWith (fun x _ => moves_applySetWindow x s)
  | joinPair => exact moves_applyHeldWith (fun x _ => moves_applyJoinPair x s)
  | startWindow => exact moves_applyHeldWith (fun w _ => (s.keeps_setRunning w true).moves)
  | stopWindow => exact moves_applyHeldWith (fun w _ => (s.keeps_setRunning w false).moves)
  | presetWindow => exact moves_applyHeldWith (fun w _ => moves_applyPresetWindow w s)
  | bindInput => exact moves_applyHeldWith (fun x _ => moves_applyBind x s)
  | setAutosave => exact moves_applyHeldWith (fun x _ => (keeps_applySetAutosave x s).moves)
  | unfreeze => exact moves_applyHeldWith (fun _ _ => (keeps_applyUnfreeze s).moves)

theorem State.moves_confirmProposal (s : State) (k : Fin 4) (q : Proposal) : s.Moves (s.confirmProposal k q).1 := by
  refine (moves_applyHeld q.code q.params s).trans ?_
  unfold State.confirmProposal
  dsimp only
  split
  · exact ((State.keeps_closeProposal _ _ _).trans (State.keeps_discardOpen _)).moves
  · exact (State.keeps_closeProposal _ _ _).moves

theorem moves_applyConfirm (p : Port) (n : Word16) (s : State) : s.Moves (applyConfirm p n s).1 := by
  unfold applyConfirm
  split
  · exact .refl s
  · split
    · exact .refl s
    · split
      · exact .refl s
      · split
        · exact .refl s
        · exact s.moves_confirmProposal _ _

theorem keeps_applyWithdraw (p : Port) (n : Word16) (s : State) : s.Keeps (applyWithdraw p n s).1 := by
  unfold applyWithdraw
  split
  · exact .refl s
  · split
    · exact .refl s
    · split
      · exact .refl s
      · split
        · exact s.keeps_closeProposal _ _
        · exact .refl s

theorem keeps_applyReadProposal (p : Port) (n : Word16) (s : State) : s.Keeps (applyReadProposal p n s).1 := by
  unfold applyReadProposal
  split
  · exact .refl s
  · split
    · exact .refl s
    · split
      · exact .refl s
      · dsimp only
        split
        · exact s.keeps_freeProposal _
        · exact .refl s

theorem keeps_applyAck (p : Port) (seq : Word16) (s : State) : s.Keeps (applyAck p seq s).1 := by
  unfold applyAck
  dsimp only
  split
  · exact .refl s
  · split
    · exact .of_eq rfl rfl rfl rfl rfl rfl
    · exact .refl s

theorem keeps_applySetNotice (p : Port) (m : NoticeMask) (s : State) : s.Keeps (applySetNotice p m s).1 :=
  .of_eq rfl rfl rfl rfl rfl rfl

theorem keeps_applyAudit (resume : Bool) (s : State) : s.Keeps (applyAudit resume s).1 := by
  unfold applyAudit
  split
  case h_6 =>
    split
    · exact .refl s
    · split
      · exact .refl s
      · exact ⟨rfl, rfl, fun _ => rfl, rfl, fun _ => rfl, fun _ _ h => by cases h⟩
  all_goals exact .refl s

/-- The request of a command of 10.2 is a run of moves. -/
theorem moves_commandRequest (c : Instr) (ps : List Byte) (s : State) : s.Moves (commandRequest c ps s).1 := by
  cases c with
  | define p => exact State.moves_structural (fun _ h => moves_applyDefine (parseDefine_inRange h) s)
  | retire p => exact State.moves_structural (fun id _ => moves_applyRetire id s)
  | tune p => exact State.moves_structural (fun _ h => moves_applyTune (parseTune_inRange h) s)
  | clear p => exact State.moves_structural (fun id _ => moves_applyClear id s)
  | report p => exact State.moves_direct (fun items _ => moves_applyReport p items s)
  | ack p => exact State.moves_direct (fun seq _ => (keeps_applyAck p seq s).moves)
  | setNotice p => exact State.moves_direct (fun m _ => (keeps_applySetNotice p m s).moves)
  | setWindow p => exact State.moves_structural (fun x _ => moves_applySetWindow x s)
  | joinPair p => exact State.moves_structural (fun x _ => moves_applyJoinPair x s)
  | startWindow p => exact State.moves_structural (fun w _ => (s.keeps_setRunning w true).moves)
  | stopWindow p => exact State.moves_structural (fun w _ => (s.keeps_setRunning w false).moves)
  | presetWindow p => exact State.moves_structural (fun w _ => moves_applyPresetWindow w s)
  | bindInput p => exact State.moves_structural (fun x _ => moves_applyBind x s)
  | freeze p => exact State.moves_direct (fun l _ => (keeps_applyFreeze l s).moves)
  | unfreeze p => exact State.moves_structural (fun _ _ => .refl s)
  | confirm p => exact State.moves_direct (fun n _ => moves_applyConfirm p n s)
  | withdraw p => exact State.moves_direct (fun n _ => (keeps_applyWithdraw p n s).moves)
  | readProposal p => exact State.moves_direct (fun n _ => (keeps_applyReadProposal p n s).moves)
  | setAutosave p => exact State.moves_structural (fun x _ => (keeps_applySetAutosave x s).moves)
  | audit p => exact State.moves_direct (fun resume _ => (keeps_applyAudit resume s).moves)
  | identify | readEntry | list | readVerdict | readHistory | readWindow | readInput | readRetention | readAudit =>
    exact State.moves_direct (fun _ _ => .refl s)
  | _ => exact .refl s

theorem State.moves_takeCommand {s : State} {p : Port} {test : Byte → Bool}
    {request : List Byte → State → State × Answer} (h : ∀ ps t, State.Moves t (request ps t).1) :
    s.Moves (s.takeCommand p test request) := by
  unfold State.takeCommand
  split
  · exact (s.keeps_grant p).moves.trans ((h _ _).trans (State.keeps_placeAnswer _ _ _).moves)
  · exact .refl s

theorem moves_execSave (p : Port) {s t : State} (h : execSave p s = .next t) : s.Moves t := by
  unfold execSave at h
  cases h
  split
  · split
    · exact ((s.keeps_grant p).trans (State.keeps_requestPortSave _ p)).moves
    · exact ((s.keeps_grant p).trans (State.keeps_placeAnswer _ _ _)).moves
  · exact .refl s

/-- A command of 10.2 is a run of moves. -/
theorem moves_exec_command {c : Instr} {p : Port} {code : Byte} (hc : portAndCode c = some (p, code)) {s t : State}
    (h : exec c s = .next t) : s.Moves t := by
  by_cases hsave : code = 0x60
  · obtain rfl := eq_save_of_code (hsave ▸ hc)
    exact moves_execSave p h
  · rw [exec_command hc hsave] at h
    cases h
    exact State.moves_takeCommand (moves_commandRequest c)

end Sys2Proof.Machine
end

section
/-! PROOFS. The frames and events are runs of moves too, and so is every step. -/

namespace Sys2Proof.Machine

theorem State.keeps_takeFrame {s : State} {p : Port} {k : PortUnit → State} (h : ∀ u, s.Keeps (k u)) :
    s.Keeps (s.takeFrame p k) := by
  unfold State.takeFrame
  dsimp only
  split
  · split
    · exact s.keeps_setPort _ _
    · exact h _
  · exact .refl s

theorem keeps_execCommandFrame (p : Port) (bytes : List Byte) {s t : State} (h : execCommandFrame p bytes s = .next t) :
    s.Keeps t := by
  cases h
  exact State.keeps_takeFrame (fun u => s.keeps_setPort _ _)

theorem keeps_execPoll (p : Port) (n : Nat) {s t : State} (h : execPoll p n s = .next t) : s.Keeps t := by
  cases h
  exact State.keeps_takeFrame (fun u => s.keeps_setPort _ _)

theorem keeps_execFetch (p : Port) (n : Nat) {s t : State} (h : execFetch p n s = .next t) : s.Keeps t := by
  cases h
  refine State.keeps_takeFrame (fun u => ?_)
  split
  · exact s.keeps_setPort _ _
  · exact s.keeps_setPort _ _

theorem keeps_execBadKindFrame (p : Port) (kind : Option Byte) (n : Nat) {s t : State}
    (h : execBadKindFrame p kind n s = .next t) : s.Keeps t := by
  cases h
  split
  · exact State.keeps_takeFrame (fun _ => .refl s)
  · split
    · exact .refl s
    · exact State.keeps_takeFrame (fun u => s.keeps_setPort _ _)

/-- What a PORT RESET leaves of a request is what the request does (R158). -/
theorem moves_effectOf (p : Port) (code : Byte) (ps : List Byte) (s : State) : s.Moves (effectOf p code ps s) := by
  obtain h | ⟨c, -, -, h⟩ := effectOf_cases p code ps s <;> rw [h]
  · exact .refl s
  · exact moves_commandRequest c ps s

/-- A PORT RESET frame is a reset of its port at most, before it the grant of a request and after it that request's
effect. -/
theorem moves_execPortReset (p : Port) (frame : ResetFrame) {s t : State} (h : execPortReset p frame s = .next t) :
    s.Moves t := by
  cases h
  unfold State.takeFrame
  dsimp only
  split
  · split
    · exact (s.keeps_setPort _ _).moves
    · split
      · split
        · exact (((s.keeps_grant p).trans (State.keeps_setPort _ _ _)).trans (State.keeps_resetPort _ p)).moves.trans
            (moves_effectOf _ _ _ _)
        · exact ((s.keeps_setPort _ _).trans (State.keeps_resetPort _ p)).moves
      · exact (s.keeps_setPort _ _).moves
  · exact .refl s

/-! ## Reset and load -/

/-- A part restarted is one move from any state that holds the same table. -/
theorem State.Keeps.restart {s t : State} (h : s.Keeps t) (array : PerImage Image) : s.Moves (t.restart array) :=
  h.moves.trans (State.Move.restarted array).moves

theorem moves_execReset (cause : ResetCause) (cut : CutPoint) (faults : List ArrayFault) {s t : State}
    (h : execReset cause cut faults s = .next t) : s.Moves t := by
  have hpower : s.Keeps { s with powered := true } := .of_eq rfl rfl rfl rfl rfl rfl
  have hrst : s.Keeps { s with rstAsserted := true } := .of_eq rfl rfl rfl rfl rfl rfl
  have hports : ∀ (u : State) (x : PerPort PortUnit), u.Keeps { u with ports := x } :=
    fun _ _ => .of_eq rfl rfl rfl rfl rfl rfl
  cases h
  split
  · exact (hpower.restart _).trans (hports _ _).moves
  · split
    · exact hrst.restart _
    · exact hrst.moves

theorem moves_execLossOfPower (cut : CutPoint) {s t : State} (h : execLossOfPower cut s = .next t) : s.Moves t := by
  have hpower : s.Keeps { s with powered := false } := .of_eq rfl rfl rfl rfl rfl rfl
  cases h
  exact hpower.restart _

theorem keeps_execRstNRelease (selected : PortSet) {s t : State} (h : execRstNRelease selected s = .next t) :
    s.Keeps t := by
  cases h
  split
  · exact .of_eq rfl rfl rfl rfl rfl rfl
  · exact .refl s

theorem State.keeps_loadVerdict (s : State) : s.Keeps s.loadVerdict := by
  unfold State.loadVerdict
  dsimp only
  split
  · exact .refl s
  · exact s.keeps_changeVerdict _ _

theorem State.moves_buildLoad (s : State) : s.Moves s.buildLoad := by
  have hmark : s.loadImage.loadVerdict.Keeps s.buildLoad := .of_eq rfl rfl rfl rfl rfl rfl
  exact State.Move.loaded.moves.trans (s.loadImage.keeps_loadVerdict.trans hmark).moves

theorem State.keeps_finishLoad (s : State) : s.Keeps s.finishLoad :=
  ⟨rfl, rfl, fun _ => rfl, rfl, fun _ => rfl, fun sv w h => by
    have hmode : s.finishLoad.mode = if s.pfwAsserted then .held else .idle := rfl
    rw [hmode] at h
    split at h <;> cases h⟩

theorem moves_execLoadEnd (upTo : LoadPoint) {s t : State} (h : execLoadEnd upTo s = .next t) : s.Moves t := by
  have hbuild : s.Moves (if s.loadBuilt then s else s.buildLoad) := by
    split
    · exact .refl s
    · exact s.moves_buildLoad
  cases h
  split
  · dsimp only
    split
    · exact hbuild
    · exact hbuild.trans (State.keeps_finishLoad _).moves
  · exact .refl s

/-! ## The power-fail warning and the time base -/

theorem State.keeps_powerFails (s : State) : s.Keeps s.powerFails := by
  unfold State.powerFails
  split
  · exact s.keeps_startSave _ _
  · exact (s.keeps_abortAudit _).trans (State.keeps_startSave _ _ _)
  · next hm => exact State.keeps_mode (fun _ _ h => by cases h; exact ⟨_, _, hm, rfl⟩)
  all_goals exact .refl s

theorem keeps_execPfwAssertion {s t : State} (h : execPfwAssertion s = .next t) : s.Keeps t := by
  have hpin : s.Keeps { s with pfwAsserted := true } := .of_eq rfl rfl rfl rfl rfl rfl
  cases h
  split
  · exact .refl s
  · split
    · exact hpin.trans (State.keeps_powerFails _)
    · exact hpin

theorem keeps_execPfwRelease {s t : State} (h : execPfwRelease s = .next t) : s.Keeps t := by
  have hpin : s.Keeps { s with pfwAsserted := false } := .of_eq rfl rfl rfl rfl rfl rfl
  cases h
  split
  · split
    · exact hpin.trans (State.keeps_mode (fun _ _ h => by cases h))
    all_goals exact hpin
  · exact .refl s

theorem keeps_execTick {s t : State} (h : execTick s = .next t) : s.Keeps t := by
  cases h
  split
  · exact .of_eq rfl rfl rfl rfl rfl rfl
  · exact .refl s

theorem keeps_execUptimeSecond {s t : State} (h : execUptimeSecond s = .next t) : s.Keeps t := by
  cases h
  split
  · exact .of_eq rfl rfl rfl rfl rfl rfl
  · exact .refl s

theorem keeps_execProposalExpiry (k : Fin 4) {s t : State} (h : execProposalExpiry k s = .next t) : s.Keeps t := by
  cases h
  split
  · split
    · exact s.keeps_closeProposal _ _
    · exact .refl s
  · exact .refl s

theorem keeps_execIntervalTimerExpiry {s t : State} (h : execIntervalTimerExpiry s = .next t) : s.Keeps t := by
  have htimer : s.Keeps s.reloadTimer := .of_eq rfl rfl rfl rfl rfl rfl
  cases h
  split
  · exact htimer.trans (State.keeps_requestSave _ _)
  · exact .refl s

/-! ## Event inputs and counters -/

theorem State.keeps_acceptPulse (s : State) (i : Fin 4) : s.Keeps (s.acceptPulse i) := State.keeps_setInput rfl

theorem keeps_execEventInputEdge (i : Fin 4) (soon : Bool) {s t : State} (h : execEventInputEdge i soon s = .next t) :
    s.Keeps t := by
  cases h
  split
  · exact .refl s
  · split
    · exact State.keeps_setInput rfl
    · split
      · exact State.keeps_setInput rfl
      · split
        · exact State.keeps_setInput rfl
        · split
          · refine State.Keeps.trans ?_ (State.keeps_acceptPulse _ i)
            exact State.keeps_setInput rfl
          all_goals exact State.keeps_setInput rfl

theorem keeps_execEventInputReturn (i : Fin 4) {s t : State} (h : execEventInputReturn i s = .next t) :
    s.Keeps t := by
  have hmove : ∀ (e : EventInput) (edge : Edge), e = s.inputs[i] →
      s.Keeps (if e.level = edge.active then s.setInput i { e with level := !edge.active, judging := none }
        else s) := by
    intro e edge he
    split
    · exact State.keeps_setInput (he ▸ rfl)
    · exact .refl s
  cases h
  exact hmove _ _ rfl

theorem keeps_execFilterWidthElapsed (i : Fin 4) {s t : State} (h : execFilterWidthElapsed i s = .next t) :
    s.Keeps t := by
  cases h
  split
  · exact s.keeps_acceptPulse i
  · exact .refl s

theorem moves_execPulseFold (i : Fin 4) {s t : State} (h : execPulseFold i s = .next t) : s.Moves t := by
  cases h
  split
  · dsimp only
    split
    · split
      · refine State.Moves.trans ?_ (State.keeps_recompute _ _).moves
        refine State.Moves.trans ?_ (State.moves_foldEntry _ _)
        exact State.Keeps.moves (State.keeps_setInput rfl)
      · exact State.Keeps.moves (State.keeps_setInput rfl)
    · exact State.Keeps.moves (State.keeps_setInput rfl)
  · exact .refl s

theorem keeps_execWindowTickDecrement (w : Fin 8) {s t : State} (h : execWindowTickDecrement w s = .next t) :
    s.Keeps t := by
  cases h
  split
  · split
    · exact (s.keeps_setCounter _ _).trans (State.keeps_setCounter _ _ _)
    · exact .refl s
  · exact .refl s

theorem keeps_execWindowEventDecrement (n : PulseCount) {s t : State} (h : execWindowEventDecrement n s = .next t) :
    s.Keeps t := by
  cases h
  split
  · dsimp only
    split
    · refine State.Keeps.trans ?_ (State.keeps_setCounter _ _ _)
      exact State.keeps_setInput rfl
    · exact State.keeps_setInput rfl
  · exact .refl s

theorem becomes_closeEntry {w : Fin 8} {e x : Entry} (h : closeEntry w e = some x) : e.Becomes x := by
  simp only [closeEntry, Option.ite_none_right_eq_some, Option.some.injEq] at h
  exact h.2 ▸ e.becomes_takeSample

theorem becomes_earlyEntry {w : Fin 8} {e x : Entry} (h : earlyEntry w e = some x) : e.Becomes x := by
  simp only [earlyEntry, Option.ite_none_right_eq_some] at h
  exact Entry.becomes_lookEarly h.2

theorem moves_execWindowClose (w : Fin 8) {s t : State} (h : execWindowClose w s = .next t) : s.Moves t := by
  cases h
  split
  · split
    · exact (s.keeps_setCounter _ _).moves.trans
        ((State.moves_writeEntries (fun _ _ _ => becomes_closeEntry)).trans (State.keeps_recompute _ _).moves)
    · exact .refl s
  all_goals exact .refl s

theorem moves_execEarlyLook (w : Fin 8) {s t : State} (h : execEarlyLook w s = .next t) : s.Moves t := by
  cases h
  split
  · split
    · exact (s.keeps_setCounter _ _).moves.trans
        ((State.moves_writeEntries (fun _ _ _ => becomes_earlyEntry)).trans (State.keeps_recompute _ _).moves)
    · exact .refl s
  all_goals exact .refl s

/-! ## The steps of a save and of a sweep -/

theorem keeps_execOpenMarkingWritten {s t : State} (h : execOpenMarkingWritten s = .next t) : s.Keeps t := by
  cases h
  split
  · next hm =>
    split
    · exact ⟨rfl, rfl, fun _ => rfl, rfl, fun j => imageInfo_count_set _ _ j _ rfl,
        fun _ _ h => by cases h; exact .inr ⟨_, _, hm, rfl⟩⟩
    · exact .refl s
  all_goals exact .refl s

theorem State.keeps_saveFails (s : State) (sv : Save) : s.Keeps (s.saveFails sv) := by
  refine State.Keeps.trans ?_ (State.keeps_placeAnswers _ _ _)
  exact ⟨rfl, rfl, fun _ => rfl, rfl, fun j => imageInfo_count_set _ _ j _ rfl, fun sv w h => .inr ⟨sv, w, h, rfl⟩⟩

theorem State.keeps_afterSave (s : State) (w : Option PendingSave) : s.Keeps (s.afterSave w) := by
  unfold State.afterSave
  split
  · have hfaulted : s.Keeps { s with mode := .faulted } := State.keeps_mode (fun _ _ h => by cases h)
    dsimp only
    split
    · exact hfaulted.trans (State.keeps_placeAnswers _ _ _)
    · exact hfaulted
  · split
    · exact s.keeps_startSave _ _
    · split
      · exact State.keeps_mode (fun _ _ h => by cases h)
      · exact State.keeps_mode (fun _ _ h => by cases h)

theorem moves_execSaveEnd (ok : Bool) {s t : State} (h : execSaveEnd ok s = .next t) : s.Moves t := by
  cases h
  split
  · next hm =>
    split
    · exact (State.Move.saved hm).moves.trans (State.keeps_afterSave _ _).moves
    · exact ((s.keeps_saveFails _).trans (State.keeps_afterSave _ _)).moves
  all_goals exact .refl s

theorem keeps_execAuditSegmentEnd (faults : List ArrayFault) {s t : State}
    (h : execAuditSegmentEnd faults s = .next t) : s.Keeps t := by
  cases h
  split
  · dsimp only
    split
    · exact .of_eq rfl rfl rfl rfl rfl rfl
    · have hidle : ∀ (x : PerImage Image) (a : Audit), s.Keeps { s with array := x, audit := a, mode := .idle } :=
        fun _ _ => ⟨rfl, rfl, fun _ => rfl, rfl, fun _ => rfl, fun _ _ h => by cases h⟩
      split
      · exact (hidle _ _).trans (State.keeps_requestSave _ _)
      · exact hidle _ _
  all_goals exact .refl s

/-! ## Every step -/

/-- Every command and event is a run of moves. -/
theorem moves_exec (c : Instr) {s t : State} (h : exec c s = .next t) : s.Moves t := by
  cases hc : portAndCode c with
  | some x => exact moves_exec_command (p := x.1) (code := x.2) hc h
  | none =>
    cases c with
    | unknownCommand p => cases h; exact State.moves_takeCommand (fun _ t => .refl t)
    | commandFrame p bytes => exact (keeps_execCommandFrame p bytes h).moves
    | poll p n => exact (keeps_execPoll p n h).moves
    | fetch p n => exact (keeps_execFetch p n h).moves
    | portReset p frame => exact moves_execPortReset p frame h
    | badKindFrame p kind n => exact (keeps_execBadKindFrame p kind n h).moves
    | reset cause cut faults => exact moves_execReset cause cut faults h
    | loadEnd upTo => exact moves_execLoadEnd upTo h
    | pfwAssertion => exact (keeps_execPfwAssertion h).moves
    | pfwRelease => exact (keeps_execPfwRelease h).moves
    | tick => exact (keeps_execTick h).moves
    | uptimeSecond => exact (keeps_execUptimeSecond h).moves
    | proposalExpiry k => exact (keeps_execProposalExpiry k h).moves
    | intervalTimerExpiry => exact (keeps_execIntervalTimerExpiry h).moves
    | eventInputEdge i soon => exact (keeps_execEventInputEdge i soon h).moves
    | eventInputReturn i => exact (keeps_execEventInputReturn i h).moves
    | filterWidthElapsed i => exact (keeps_execFilterWidthElapsed i h).moves
    | pulseFold i => exact moves_execPulseFold i h
    | windowTickDecrement w => exact (keeps_execWindowTickDecrement w h).moves
    | windowEventDecrement n => exact (keeps_execWindowEventDecrement n h).moves
    | windowClose w => exact moves_execWindowClose w h
    | earlyLook w => exact moves_execEarlyLook w h
    | saveEnd ok => exact moves_execSaveEnd ok h
    | auditSegmentEnd faults => exact (keeps_execAuditSegmentEnd faults h).moves
    | lossOfPower cut => exact moves_execLossOfPower cut h
    | rstNRelease selected => exact (keeps_execRstNRelease selected h).moves
    | openMarkingWritten => exact (keeps_execOpenMarkingWritten h).moves
    | _ => cases hc

/-- A step is the command at the front of the queue, or none. -/
theorem step_cases {s t : State} (h : step s = .next t) :
    (s.pending = [] ∧ t = s) ∨ ∃ c rest, s.pending = c :: rest ∧ exec c { s with pending := rest } = .next t := by
  unfold step at h
  split at h
  · next hp => cases h; exact .inl ⟨hp, rfl⟩
  · next c rest hp => exact .inr ⟨c, rest, hp, h⟩

/-- Every step is a run of moves. -/
theorem moves_step {s t : State} (h : step s = .next t) : s.Moves t := by
  obtain ⟨-, rfl⟩ | ⟨c, rest, -, hexec⟩ := step_cases h
  · exact .refl t
  · have hqueue : s.Keeps { s with pending := rest } := .of_eq rfl rfl rfl rfl rfl rfl
    exact hqueue.moves.trans (moves_exec c hexec)

end Sys2Proof.Machine
end

section
/-! PROOFS. The invariants of the table, of the bindings and of the joined pairs, move by move (O4, O5, O6). -/

namespace Sys2Proof.Machine

/-! ## Ascending tables (R3) -/

theorem ascending_iff (t : List Entry) : ascending t ↔ t.Pairwise (fun e x => e.id.toNat < x.id.toNat) := by
  unfold ascending; exact List.pairwise_map

/-- In an ascending table an id names one entry. -/
theorem eq_of_findEntry {id : Byte} {t : List Entry} {e x : Entry} (ht : ascending t)
    (h : findEntry id t = some e) (hx : x ∈ t) (hid : x.id = id) : x = e := by
  obtain ⟨he, heid⟩ := mem_of_findEntry h
  have hnodup : (t.map (fun e => e.id.toNat)).Nodup := ht.imp (fun hlt => Nat.ne_of_lt hlt)
  exact List.inj_on_of_nodup_map hnodup hx he (by rw [hid, heid])

theorem ascending_map {t : List Entry} {g : Entry → Entry} (h : ∀ e ∈ t, (g e).id = e.id) (ht : ascending t) :
    ascending (t.map g) := by
  have hids : (t.map g).map (fun e => e.id.toNat) = t.map (fun e => e.id.toNat) := by
    rw [List.map_map]
    exact List.map_congr_left (fun e he => by simp only [Function.comp, h e he])
  unfold ascending
  rw [hids]
  exact ht

theorem ascending_removeEntry {t : List Entry} (id : Byte) (ht : ascending t) : ascending (removeEntry id t) :=
  (ascending_iff _).mpr (((ascending_iff t).mp ht).filter _)

/-- A new id goes in where the order stays (R8). -/
theorem ascending_insertEntry {e : Entry} {t : List Entry} (h : ∀ x ∈ t, x.id ≠ e.id) (ht : ascending t) :
    ascending (insertEntry e t) := by
  rw [ascending_iff] at *
  induction t with
  | nil => exact List.pairwise_singleton _ _
  | cons y ys ih =>
    obtain ⟨hy, hys⟩ := List.pairwise_cons.mp ht
    unfold insertEntry
    split
    · next hlt =>
      refine List.pairwise_cons.mpr ⟨fun x hx => ?_, ht⟩
      obtain rfl | hx := List.mem_cons.mp hx
      · exact hlt
      · exact Nat.lt_trans hlt (hy x hx)
    · next hge =>
      refine List.pairwise_cons.mpr ⟨fun x hx => ?_, ih (fun x hx => h x (List.mem_cons_of_mem _ hx)) hys⟩
      obtain rfl | hx := mem_insertEntry.mp hx
      · have hne : y.id.toNat ≠ x.id.toNat := fun he => h y List.mem_cons_self (BitVec.eq_of_toNat_eq he)
        omega
      · exact hy x hx

/-! ## What a load keeps is in order and within its bounds (R117) -/

/-- The check on a position is the one written out from the manual. -/
theorem standsAfter_of_stands {last : Byte} {r : EntryRecord} (h : stands last (some r) = true) :
    r.StandsAfter last := by
  simp only [stands, EntryRecord.checkOk, EntryRecord.inRange, EntryRecord.gradeOk, Bool.and_eq_true, Bool.or_eq_true,
    beq_iff_eq, bne_iff_ne, decide_eq_true_eq] at h
  obtain ⟨⟨⟨⟨⟨hcheck, hid⟩, hid'⟩, hlast⟩, hrange⟩, hgrade⟩ := h
  obtain ⟨⟨⟨⟨⟨⟨⟨⟨hcls, hrep⟩, htrip⟩, hstep⟩, hg⟩, hg'⟩, hlow⟩, hever⟩, hkind⟩ := hrange
  obtain ⟨⟨hlg, hlow'⟩, hgk⟩ := hgrade
  refine ⟨hcheck, hid, hid', hlast, hcls, hrep, htrip, hstep, hever, hlow, hlg, hlow', ?_⟩
  by_cases h1 : r.kind = 1
  · simp_all
  · by_cases h2 : r.kind = 2
    · simp_all
      exact fun hlt => hgk.resolve_left (Nat.not_le.mpr hlt)
    · by_cases h3 : r.kind = 3 <;> simp_all

theorem entryOf_ok {last : Byte} {r : EntryRecord} (h : stands last (some r) = true) : (entryOf r).Ok := by
  obtain ⟨-, hid, hid', -, -, -, htrip, hstep, -, hlow, hlg, hlow', hkind⟩ := standsAfter_of_stands h
  refine (Entry.ok_iff _).mpr
    ⟨⟨hid, hid'⟩, htrip.imp_right (fun h => by simp [entryOf, h]), hstep, ⟨hlow, hlg, hlow'⟩, ?_⟩
  obtain ⟨hk, hg, -⟩ | ⟨hk, hg, hu, -, hsettle, -⟩ | ⟨hk, hg, -⟩ := hkind
  · simpa [entryOf, hk, KindPart.Allows] using hg
  · have hseen : r.windowsSeen.toNat ≤ 255 := Nat.lt_succ_iff.mp r.windowsSeen.isLt
    simpa [entryOf, hk, KindPart.Allows, hg, hsettle, hseen] using fun h => congrArg BitVec.toNat (hu h)
  · simpa [entryOf, hk, KindPart.Allows] using hg

/-- The entries a load keeps after an id: no more than the positions, ids ascending above that id, each within its
bounds. -/
theorem loadEntries_spec (rs : List (Option EntryRecord)) (last : Byte) :
    (loadEntries last rs).length ≤ rs.length ∧ ascending (loadEntries last rs) ∧
      ∀ e ∈ loadEntries last rs, last.toNat < e.id.toNat ∧ e.Ok := by
  induction rs generalizing last with
  | nil => exact ⟨Nat.le_refl _, List.Pairwise.nil, fun e he => nomatch he⟩
  | cons r rs ih =>
    have hskip : (loadEntries last rs).length ≤ (r :: rs).length ∧ ascending (loadEntries last rs) ∧
        ∀ e ∈ loadEntries last rs, last.toNat < e.id.toNat ∧ e.Ok :=
      ⟨Nat.le_succ_of_le (ih last).1, (ih last).2⟩
    cases r with
    | none => exact hskip
    | some r =>
      unfold loadEntries
      dsimp only
      split
      · next hst =>
        obtain ⟨-, -, -, hlast, -⟩ := standsAfter_of_stands hst
        obtain ⟨hlen, hasc, hall⟩ := ih r.id
        refine ⟨Nat.succ_le_succ hlen, ?_, fun e he => ?_⟩
        · rw [ascending_iff] at *
          exact List.pairwise_cons.mpr ⟨fun e he => (hall e he).1, hasc⟩
        · obtain rfl | he := List.mem_cons.mp he
          · exact ⟨hlast, entryOf_ok hst⟩
          · exact ⟨Nat.lt_trans hlast (hall e he).1, (hall e he).2⟩
      · exact hskip

/-! ## The table invariant (R3, R26, R30, R31) -/

/-- A table of at most 48 entries in ascending id order, each within its bounds. -/
def tableOk (t : List Entry) : Prop := t.length ≤ Config.entries ∧ ascending t ∧ ∀ e ∈ t, e.Ok

/-- The active image and the snapshot of a save in flight hold at most 48 entries. -/
def State.imagesOk (s : State) : Prop :=
  (∀ i, s.activeImage = some i → (s.imageInfo.get i).count ≤ Config.entries) ∧
  (∀ sv w, s.mode = .saving sv w → sv.image.positions.length ≤ Config.entries)

theorem State.tableInv_iff (s : State) : s.TableInv ↔ tableOk s.table ∧ s.imagesOk := by
  simp only [State.TableInv, tableOk, State.imagesOk, and_assoc]

theorem tableOk_nil : tableOk [] := ⟨by decide, List.Pairwise.nil, fun _ he => nomatch he⟩

theorem tableOk_map {t : List Entry} {g : Entry → Entry} (h : ∀ e ∈ t, e.Becomes (g e)) (ht : tableOk t) :
    tableOk (t.map g) := by
  obtain ⟨hlen, hasc, hok⟩ := ht
  refine ⟨by rwa [List.length_map], ascending_map (fun e he => (h e he).id) hasc, fun x hx => ?_⟩
  obtain ⟨e, he, rfl⟩ := List.mem_map.mp hx
  exact (h e he).ok (hok e he)

theorem tableOk_insertEntry {e : Entry} {t : List Entry} (he : e.Ok) (hid : ∀ x ∈ t, x.id ≠ e.id)
    (hlen : t.length < Config.entries) (ht : tableOk t) : tableOk (insertEntry e t) := by
  obtain ⟨-, hasc, hok⟩ := ht
  refine ⟨by rw [length_insertEntry]; exact hlen, ascending_insertEntry hid hasc, fun x hx => ?_⟩
  obtain rfl | hx := mem_insertEntry.mp hx
  · exact he
  · exact hok x hx

theorem tableOk_removeEntry {t : List Entry} (id : Byte) (ht : tableOk t) : tableOk (removeEntry id t) := by
  obtain ⟨hlen, hasc, hok⟩ := ht
  exact ⟨Nat.le_trans (List.length_filter_le _ _) hlen, ascending_removeEntry id hasc,
    fun x hx => hok x (mem_removeEntry.mp hx).1⟩

theorem tableOk_loadEntries {rs : List (Option EntryRecord)} (h : rs.length ≤ Config.entries) :
    tableOk (loadEntries 0 rs) := by
  obtain ⟨hlen, hasc, hall⟩ := loadEntries_spec rs 0
  exact ⟨Nat.le_trans hlen h, hasc, fun e he => (hall e he).2⟩

/-- The entry a DEFINE makes is within its bounds. -/
theorem DefineParams.entry_ok {x : DefineParams} (hx : x.InRange) : x.entry.Ok :=
  Entry.ok_refresh hx.id hx.trip hx.step hx.kind

/-- In an ascending table a TUNE writes the one entry it was made for. -/
theorem becomes_tuned {x : TuneParams} {t : List Entry} {e : Entry} {k : KindPart} (hx : x.InRange)
    (ht : ascending t) (he : findEntry x.id t = some e) (hk : x.kindFor e.kind = some k) :
    ∀ y ∈ t, y.Becomes (markedBy (fun z => if z.id = x.id then some (x.tune k z) else none) y) := by
  intro y hy
  refine Entry.becomes_markedBy (fun z hz => ?_)
  simp only [Option.ite_none_right_eq_some, Option.some.injEq] at hz
  obtain ⟨hid, rfl⟩ := hz
  obtain rfl := eq_of_findEntry ht he hy hid
  exact TuneParams.becomes_tune hx hk

theorem State.imagesOk_of {s t : State} (hs : s.imagesOk) (hactive : t.activeImage = s.activeImage)
    (hcount : ∀ i, (t.imageInfo.get i).count = (s.imageInfo.get i).count)
    (himage : ∀ sv w, t.mode = .saving sv w → sv.image.positions.length ≤ Config.entries ∨
      ∃ sv' w', s.mode = .saving sv' w' ∧ sv.image = sv'.image) : t.imagesOk := by
  obtain ⟨hs1, hs2⟩ := hs
  refine ⟨fun i hi => hcount i ▸ hs1 i (hactive ▸ hi), fun sv w hm => ?_⟩
  obtain h | ⟨sv', w', hm', hi⟩ := himage sv w hm
  · exact h
  · exact hi ▸ hs2 sv' w' hm'

/-- The active image of a restart is VALID, so its entry count has been judged (R115, R116). -/
theorem State.imagesOk_restart (s : State) (array : PerImage Image) : (s.restart array).imagesOk := by
  have hvalid : ∀ (x : Image), x.info.state = .valid → x.info.count ≤ Config.entries := by
    intro x hx
    unfold Image.info at hx ⊢
    split at hx
    · next h hh =>
      simp only [Image.judge, hh] at hx
      split at hx
      · next hj =>
        simp only [Bool.and_eq_true, decide_eq_true_eq] at hj
        exact hj.1.2
      · cases hx
    all_goals exact Nat.zero_le _
  refine ⟨fun i hi => ?_, fun _ _ hm => nomatch hm⟩
  have hchosen : chooseActive ⟨array.a.info, array.b.info⟩ = some i := hi
  unfold chooseActive at hchosen
  split at hchosen
  · next ha hb =>
    split at hchosen <;> cases hchosen
    · exact hvalid array.b (by simpa using hb)
    · exact hvalid array.a (by simpa using ha)
  · next ha hb => cases hchosen; exact hvalid array.a (by simpa using ha)
  · next ha hb => cases hchosen; exact hvalid array.b (by simpa using hb)
  · cases hchosen

/-- What a load makes of the active image, and that it leaves the images as they are. -/
theorem State.tableOk_loadImage {s : State} (h : s.imagesOk) : tableOk s.loadImage.table := by
  unfold State.loadImage
  split
  · next i hi =>
    exact tableOk_loadEntries (by simpa [Image.used] using h.1 i hi)
  · exact tableOk_nil

theorem State.loadImage_images (s : State) : s.loadImage.activeImage = s.activeImage ∧
    s.loadImage.imageInfo = s.imageInfo ∧ s.loadImage.mode = s.mode := by
  unfold State.loadImage
  split <;> exact ⟨rfl, rfl, rfl⟩

/-- A successful save moves the slots of its requesters, the array, the images' records, the marks and the timer
alone. -/
theorem State.saveSucceeds_fields (s : State) (sv : Save) :
    (s.saveSucceeds sv).table = s.table.map sv.note.clearMark ∧ (s.saveSucceeds sv).joined = s.joined ∧
    (s.saveSucceeds sv).inputs = s.inputs ∧ (s.saveSucceeds sv).activeImage = some sv.target ∧
    (s.saveSucceeds sv).mode = s.mode ∧ (s.saveSucceeds sv).imageInfo =
      sv.olderInfo (s.imageInfo.set sv.target ⟨.valid, sv.generation, sv.causes, sv.image.positions.length⟩) := by
  unfold State.saveSucceeds
  dsimp only
  rw [State.placeAnswers_ports]
  exact ⟨rfl, rfl, rfl, rfl, rfl, rfl⟩

theorem Save.olderInfo_target (sv : Save) (x : PerImage ImageInfo) :
    (sv.olderInfo x).get sv.target = x.get sv.target := by
  unfold Save.olderInfo
  split
  · rw [perImage_get_set, if_neg (Ne.symm (other_ne sv.target))]
  · rfl

theorem State.imagesOk_saveSucceeds {s : State} {sv : Save} {w : Option PendingSave} (hm : s.mode = .saving sv w)
    (hs : s.imagesOk) : (s.saveSucceeds sv).imagesOk := by
  obtain ⟨-, -, -, hactive, hmode, hinfo⟩ := s.saveSucceeds_fields sv
  refine ⟨fun i hi => ?_, fun sv' w' h => hs.2 sv' w' (hmode ▸ h)⟩
  obtain rfl : sv.target = i := Option.some.inj (hactive.symm.trans hi)
  rw [hinfo, Save.olderInfo_target, perImage_get_set, if_pos rfl]
  exact hs.2 sv w hm

/-- R3, R26, R30, R31, R117: every move keeps the table ordered and bounded. -/
theorem State.Move.keeps_tableInv {s t : State} (h : s.Move t) (hs : s.TableInv) : t.TableInv := by
  obtain ⟨htable, himages⟩ := s.tableInv_iff.mp hs
  refine t.tableInv_iff.mpr ?_
  cases h with
  | keep h =>
    refine ⟨h.table ▸ htable, State.imagesOk_of himages h.active h.count (fun sv w hm => ?_)⟩
    exact (h.image sv w hm).imp_left (fun hl => Nat.le_trans (Nat.le_of_eq hl) htable.1)
  | rewrite h => exact ⟨tableOk_map h htable, himages⟩
  | define hx hid hlen hw =>
    exact ⟨tableOk_insertEntry (DefineParams.entry_ok hx) (findEntry_none hid) hlen htable,
      State.imagesOk_of himages rfl (fun _ => rfl) (fun _ _ h => .inr (RetentionMode.withdrawIds_saving h))⟩
  | retire id =>
    exact ⟨tableOk_removeEntry id htable,
      State.imagesOk_of himages rfl (fun _ => rfl) (fun _ _ h => .inr (RetentionMode.withdrawIds_saving h))⟩
  | tune hx he hk =>
    exact ⟨tableOk_map (becomes_tuned hx htable.2.1 he hk) htable,
      State.imagesOk_of himages rfl (fun _ => rfl) (fun _ _ h => .inr (RetentionMode.withdrawIds_saving h))⟩
  | bind h =>
    exact ⟨htable, State.imagesOk_of himages rfl (fun _ => rfl)
      (fun _ _ h => .inr (RetentionMode.withdrawSettings_saving h))⟩
  | join h => exact ⟨htable, himages⟩
  | @saved sv w h =>
    obtain ⟨htab, -⟩ := s.saveSucceeds_fields sv
    exact ⟨htab ▸ tableOk_map (fun e _ => sv.note.becomes_clearMark e) htable, State.imagesOk_saveSucceeds h himages⟩
  | restarted array => exact ⟨tableOk_nil, s.imagesOk_restart array⟩
  | loaded =>
    obtain ⟨hactive, hinfo, hmode⟩ := s.loadImage_images
    exact ⟨State.tableOk_loadImage himages, State.imagesOk_of himages hactive (fun i => by rw [hinfo])
      (fun sv w hm => .inr ⟨sv, w, hmode ▸ hm, rfl⟩)⟩

/-- Settles O5, by the moves a step is made of. -/
theorem stepKeepsTheTableOrderedAndBounded : Obligations.StepKeepsTheTableOrderedAndBounded := by
  unfold Obligations.StepKeepsTheTableOrderedAndBounded
  intro s t hs hstep
  exact State.Moves.induct (fun _ _ => State.Move.keeps_tableInv) (moves_step hstep) hs

/-! ## The bindings (R61) -/

/-- The table holds an entry of this id that an input can be bound to. -/
def bindable (t : List Entry) (id : Byte) : Prop := ∃ e ∈ t, e.id = id ∧ e.kind.isLevel = false

theorem bindable_map {t : List Entry} {g : Entry → Entry} (h : ∀ e ∈ t, e.Becomes (g e)) {id : Byte}
    (hb : bindable t id) : bindable (t.map g) id := by
  obtain ⟨e, he, hid, hl⟩ := hb
  exact ⟨g e, List.mem_map_of_mem he, (h e he).id.trans hid, (h e he).level.trans hl⟩

theorem bindable_insertEntry {t : List Entry} (e : Entry) {id : Byte} (hb : bindable t id) :
    bindable (insertEntry e t) id := by
  obtain ⟨x, hx, hid⟩ := hb
  exact ⟨x, mem_insertEntry.mpr (.inr hx), hid⟩

theorem bindable_removeEntry {t : List Entry} {gone id : Byte} (h : id ≠ gone) (hb : bindable t id) :
    bindable (removeEntry gone t) id := by
  obtain ⟨x, hx, hid, hl⟩ := hb
  exact ⟨x, mem_removeEntry.mpr ⟨hx, hid ▸ h⟩, hid, hl⟩

/-- A RETIRE unbinds the inputs of its entry and leaves the others (R10). -/
theorem State.unbindAll_binding (s : State) (id : Byte) (i : Fin 4) :
    ((s.unbindAll id).inputs[i]).binding =
      if (s.inputs[i]).binding = some id then none else (s.inputs[i]).binding := by
  simp only [State.unbindAll, getElem_vec4]
  split <;> rfl

/-- A loaded binding names an entry of the loaded table (R61). -/
theorem loadBinding_bindable {x : InputRecord} {t : List Entry} {id : Byte} (h : loadBinding x t = some id) :
    bindable t id := by
  unfold loadBinding at h
  split at h
  · cases h
  · next e he =>
    obtain ⟨hmem, hid⟩ := mem_of_findEntry he
    split at h
    · cases h
    · next hk => cases h; exact ⟨e, hmem, hid, by rw [hk]; rfl⟩
    · next hk => cases h; exact ⟨e, hmem, hid, by rw [hk]; rfl⟩

theorem State.bindable_loadImage {s : State} {i : Fin 4} {id : Byte}
    (h : (s.loadImage.inputs[i]).binding = some id) : bindable s.loadImage.table id := by
  unfold State.loadImage at h ⊢
  split at h
  · simp only [State.loadSettings, getElem_vec4, loadInput] at h
    exact loadBinding_bindable h
  · simp only [State.defaultSettings, getElem_vec4] at h
    cases h

theorem State.restart_binding (s : State) (array : PerImage Image) (i : Fin 4) :
    ((s.restart array).inputs[i]).binding = none := by
  simp only [State.restart, getElem_vec4]; rfl

/-- R61: every move keeps each binding on an entry of kind COUNT or RATE. -/
theorem State.Move.keeps_bindingInv {s t : State} (h : s.Move t) (htable : s.TableInv) (hs : s.BindingInv) :
    t.BindingInv := by
  have hs : ∀ i : Fin 4, ∀ id, (s.inputs[i]).binding = some id → bindable s.table id := hs
  show ∀ i : Fin 4, ∀ id, (t.inputs[i]).binding = some id → bindable t.table id
  intro i id hb
  cases h with
  | keep h => exact h.table ▸ hs i id (h.binding i ▸ hb)
  | rewrite h => exact bindable_map h (hs i id hb)
  | define hx hid hlen hw => exact bindable_insertEntry _ (hs i id hb)
  | retire gone =>
    rw [State.unbindAll_binding] at hb
    split at hb
    · cases hb
    · next hne => exact bindable_removeEntry (fun he => hne (he ▸ hb)) (hs i id hb)
  | tune hx he hk => exact bindable_map (becomes_tuned hx htable.2.1 he hk) (hs i id hb)
  | @bind x h =>
    have hset : ((s.bind x).inputs[i]).binding =
        if i = x.input then x.binding else (s.inputs[i]).binding := by
      show ((s.inputs.set x.input _)[i]).binding = _
      rw [vector_getElem_set]
      split <;> rfl
    rw [hset] at hb
    split at hb
    · exact h id hb
    · exact hs i id hb
  | join h => exact hs i id hb
  | @saved sv w h =>
    obtain ⟨htab, -, hinputs, -⟩ := s.saveSucceeds_fields sv
    rw [hinputs] at hb
    exact htab ▸ bindable_map (fun e _ => sv.note.becomes_clearMark e) (hs i id hb)
  | restarted array => rw [State.restart_binding] at hb; cases hb
  | loaded => exact State.bindable_loadImage hb

/-! ## The joined pairs (R83) -/

@[simp] theorem isHigh_highOf (k : Fin 4) : isHigh (highOf k) = true := by revert k; decide

@[simp] theorem pairOf_highOf (k : Fin 4) : pairOf (highOf k) = k := by revert k; decide

theorem DefineParams.boundTo_entry {x : DefineParams} {w : Fin 8} (h : x.entry.boundTo w = true) :
    ∃ a n total tally last seen, x.kind = .rate a w n total tally last seen := by
  have hkind : x.entry.kind = x.kind.fresh := rfl
  cases hk : x.kind with
  | count total => rw [Entry.boundTo_count (by rw [hkind, hk]; rfl)] at h; cases h
  | level a r => rw [Entry.boundTo_level (by rw [hkind, hk]; rfl)] at h; cases h
  | rate a v n total tally last seen =>
    rw [Entry.boundTo_rate (by rw [hkind, hk]; rfl), beq_iff_eq] at h
    exact ⟨a, n, total, tally, last, seen, by rw [h]⟩

theorem State.hasBound_false {s : State} {w : Fin 8} (h : s.hasBound w = false) :
    ∀ e ∈ s.table, e.boundTo w = false := by
  simpa [State.hasBound] using h

/-- A DEFINE that passed its state checks names no high counter of a joined pair (R7). -/
theorem State.boundTo_high_of_badWindow {s : State} {x : DefineParams} {k : Fin 4} (h : s.badWindow x.kind = false)
    (hk : s.joined[k] = true) : x.entry.boundTo (highOf k) = false := by
  by_contra hb
  obtain ⟨a, n, total, tally, last, seen, hkind⟩ := DefineParams.boundTo_entry (by simpa using hb)
  have hhigh : (isHigh (highOf k) && s.pairJoined (highOf k)) = false := by rw [hkind] at h; exact h
  simp [State.pairJoined, hk] at hhigh

theorem State.joined_loadImage {s : State} {k : Fin 4} (h : s.loadImage.joined[k] = true) :
    ∀ e ∈ s.loadImage.table, e.boundTo (highOf k) = false := by
  unfold State.loadImage at h ⊢
  split at h
  · simp only [State.loadSettings, getElem_vec4, loadJoined, Bool.and_eq_true] at h
    simpa [State.loadSettings] using h.2
  · simp only [State.defaultSettings, getElem_vec4] at h
    cases h

/-- R83: every move keeps RATE entries off the high counters of joined pairs. -/
theorem State.Move.keeps_joinInv {s t : State} (h : s.Move t) (hs : s.JoinInv) : t.JoinInv := by
  have hmap : ∀ {g : Entry → Entry}, (∀ e ∈ s.table, e.Becomes (g e)) → ∀ k : Fin 4, s.joined[k] = true →
      ∀ x ∈ s.table.map g, x.boundTo (highOf k) = false := by
    intro g hg k hk x hx
    obtain ⟨e, he, rfl⟩ := List.mem_map.mp hx
    exact ((hg e he).bound _).trans (hs k hk e he)
  intro k hk e he
  cases h with
  | keep h => exact hs k (h.joined ▸ hk) e (h.table ▸ he)
  | rewrite h => exact hmap h k hk e he
  | define hx hid hlen hw =>
    obtain rfl | he := mem_insertEntry.mp he
    · exact State.boundTo_high_of_badWindow hw hk
    · exact hs k hk e he
  | retire id => exact hs k hk e (mem_removeEntry.mp he).1
  | @tune x e' kind hx he' hkind =>
    obtain ⟨y, hy, rfl⟩ := List.mem_map.mp he
    unfold markedBy
    split
    · next z hz =>
      simp only [Option.ite_none_right_eq_some, Option.some.injEq] at hz
      obtain ⟨-, rfl⟩ := hz
      exact (TuneParams.boundTo_tune hkind y _).trans (hs k hk e' (mem_of_findEntry he').1)
    · exact hs k hk y hy
  | bind h => exact hs k hk e he
  | @join k' on h =>
    have hset : (s.joined.set k' on)[k] = true := hk
    rw [vector_getElem_set] at hset
    split at hset
    · next hkk => subst hkk; exact State.hasBound_false (h hset) e he
    · exact hs k hset e he
  | @saved sv w h =>
    obtain ⟨htab, hjoined, -⟩ := s.saveSucceeds_fields sv
    rw [hjoined] at hk
    rw [htab] at he
    exact hmap (fun e _ => sv.note.becomes_clearMark e) k hk e he
  | restarted array => cases he
  | loaded => exact State.joined_loadImage hk e he

/-- Settles O6, by the moves a step is made of. -/
theorem stepKeepsBindingsAndJoinedPairs : Obligations.StepKeepsBindingsAndJoinedPairs := by
  unfold Obligations.StepKeepsBindingsAndJoinedPairs
  refine ⟨fun s t htable hs hstep => ?_, fun s t hs hstep => ?_⟩
  · have hboth : t.TableInv ∧ t.BindingInv := State.Moves.induct (P := fun u => u.TableInv ∧ u.BindingInv)
      (fun _ _ hmove ⟨ht, hb⟩ => ⟨hmove.keeps_tableInv ht, hmove.keeps_bindingInv ht hb⟩)
      (moves_step hstep) ⟨htable, hs⟩
    exact hboth.2
  · exact State.Moves.induct (fun _ _ => State.Move.keeps_joinInv) (moves_step hstep) hs

end Sys2Proof.Machine
end

section
/-! PROOFS. What a command leaves to the arbiter: its request touches no slot (O60), so that its port's slot alone
moves. -/

namespace Sys2Proof.Machine

/-! ## Effects that leave the ports and the arbiter -/

/-- `t` holds the port units and the last granted port of `s`. -/
structure State.OffSlots (s t : State) : Prop where
  ports : t.ports = s.ports
  lastGranted : t.lastGranted = s.lastGranted

theorem State.OffSlots.refl (s : State) : s.OffSlots s := ⟨rfl, rfl⟩

theorem State.OffSlots.trans {s t u : State} (h : s.OffSlots t) (h' : t.OffSlots u) : s.OffSlots u :=
  ⟨h'.ports.trans h.ports, h'.lastGranted.trans h.lastGranted⟩

theorem State.offSlots_recompute (s : State) (c : Cause) : s.OffSlots (s.recompute c) := by
  rw [s.recompute_frame c]; exact ⟨rfl, rfl⟩

theorem State.offSlots_definitionChange (s : State) : s.OffSlots s.definitionChange := by
  obtain ⟨-, h⟩ | ⟨-, h⟩ := s.definitionChange_cases <;> rw [h]
  · exact ⟨rfl, rfl⟩
  · exact .refl s

theorem State.offSlots_markSettings (s : State) : s.OffSlots s.markSettings := ⟨rfl, rfl⟩

theorem State.offSlots_zeroTallies (s : State) (w : Fin 8) : s.OffSlots (s.zeroTallies w) := ⟨rfl, rfl⟩

theorem State.offSlots_presetCounter (s : State) (w : Fin 8) : s.OffSlots (s.presetCounter w) := ⟨rfl, rfl⟩

/-- The end of a definition command: the sweep is aborted, the verdict recomputed. -/
theorem State.OffSlots.redefined {s t : State} (h : s.OffSlots t) (c : Cause) :
    s.OffSlots (t.definitionChange.recompute c) :=
  (h.trans t.offSlots_definitionChange).trans (State.offSlots_recompute _ c)

theorem State.offSlots_closeProposal (s : State) (k : Fin 4) (o : ProposalOutcome) :
    s.OffSlots (s.closeProposal k o) := by
  unfold State.closeProposal
  split
  · exact ⟨rfl, rfl⟩
  · exact .refl s

theorem State.offSlots_makeProposal (s : State) (p : Port) (code : StructuralCode) (ps : List Byte) :
    s.OffSlots (s.makeProposal p code ps).1 := by
  unfold State.makeProposal
  split
  · exact .refl s
  · exact ⟨rfl, rfl⟩

theorem State.offSlots_foldl {α : Type} (f : State → α → State) (h : ∀ (t : State) x, t.OffSlots (f t x)) (l : List α)
    (s : State) : s.OffSlots (l.foldl f s) := by
  induction l generalizing s with
  | nil => exact .refl s
  | cons x l ih => exact (h s x).trans (ih (f s x))

theorem State.offSlots_discardOpen (s : State) : s.OffSlots s.discardOpen := by
  refine State.offSlots_foldl _ (fun t k => ?_) _ s
  split
  · exact t.offSlots_closeProposal _ _
  · exact .refl t

/-! ## The effects of the commands -/

theorem offSlots_applyDefine (x : DefineParams) (s : State) : s.OffSlots (applyDefine x s).1 := by
  unfold applyDefine
  split
  · exact .refl s
  · split
    · exact .refl s
    · split
      · exact .refl s
      · exact State.OffSlots.redefined (s := s) (t := s.addEntry x.entry) ⟨rfl, rfl⟩ _

theorem offSlots_applyRetire (id : Byte) (s : State) : s.OffSlots (applyRetire id s).1 := by
  unfold applyRetire
  split
  · exact .refl s
  · exact State.OffSlots.redefined (s := s) (t := ((s.dropEntry id).unbindAll id).markSettings) ⟨rfl, rfl⟩ _

theorem offSlots_applyTune (x : TuneParams) (s : State) : s.OffSlots (applyTune x s).1 := by
  unfold applyTune
  split
  · exact .refl s
  · split
    · exact .refl s
    · exact State.OffSlots.redefined (s := s) (t := s.writeEntry x.id (x.tune _)) ⟨rfl, rfl⟩ _

theorem offSlots_applyClear (id : Byte) (s : State) : s.OffSlots (applyClear id s).1 := by
  unfold applyClear
  split
  · exact .refl s
  · exact State.OffSlots.trans (t := s.writeEntry id Entry.refresh) ⟨rfl, rfl⟩ (State.offSlots_recompute _ _)

theorem offSlots_applyReport (p : Port) (items : List (Byte × Word16)) (s : State) :
    s.OffSlots (applyReport p items s).1 := by
  have hitems : s.OffSlots (applyItems s items) := by
    refine State.offSlots_foldl _ (fun t item => ?_) items s
    exact ⟨rfl, rfl⟩
  unfold applyReport
  split
  · exact .refl s
  · exact hitems.trans (State.offSlots_recompute _ _)

theorem offSlots_applySetWindow (x : SetWindowParams) (s : State) : s.OffSlots (applySetWindow x s).1 := by
  unfold applySetWindow
  dsimp only
  split
  · exact .refl s
  · exact ⟨rfl, rfl⟩

theorem offSlots_applyJoinPair (x : Fin 4 × Bool) (s : State) : s.OffSlots (applyJoinPair x s).1 := by
  unfold applyJoinPair
  dsimp only
  split
  · exact .refl s
  · split
    · exact .refl s
    · refine State.OffSlots.trans ?_ (State.offSlots_markSettings _)
      refine State.OffSlots.trans ?_ (State.offSlots_zeroTallies _ _)
      refine State.OffSlots.trans ?_ (State.offSlots_presetCounter _ _)
      exact ⟨rfl, rfl⟩

theorem offSlots_applyBind (x : BindParams) (s : State) : s.OffSlots (applyBind x s).1 := by
  have hbind : s.OffSlots (s.bind x) := ⟨rfl, rfl⟩
  unfold applyBind
  split
  · exact hbind
  · split
    · exact .refl s
    · split
      · exact .refl s
      · exact hbind
      · exact hbind

theorem offSlots_applyFreeze (l : Word16) (s : State) : s.OffSlots (applyFreeze l s).1 := by
  unfold applyFreeze
  split
  · exact .refl s
  · exact ⟨rfl, rfl⟩

theorem offSlots_applyAck (p : Port) (seq : Word16) (s : State) : s.OffSlots (applyAck p seq s).1 := by
  unfold applyAck
  dsimp only
  split
  · exact .refl s
  · split
    · exact ⟨rfl, rfl⟩
    · exact .refl s

theorem offSlots_applyAudit (resume : Bool) (s : State) : s.OffSlots (applyAudit resume s).1 := by
  unfold applyAudit
  split
  case h_6 =>
    split
    · exact .refl s
    · split
      · exact .refl s
      · exact ⟨rfl, rfl⟩
  all_goals exact .refl s

theorem offSlots_applyHeldWith {α : Type} {s : State} {ident : List Byte → List Byte} {parse : List Byte → Option α}
    {apply : α → State → State × Answer} (ps : List Byte) (h : ∀ x, s.OffSlots (apply x s).1) :
    s.OffSlots (applyHeldWith ident parse apply ps s).1 := by
  unfold applyHeldWith
  split
  · exact h _
  · exact .refl s

theorem offSlots_applyHeld (code : StructuralCode) (ps : List Byte) (s : State) :
    s.OffSlots (applyHeld code ps s).1 := by
  cases code with
  | define => exact offSlots_applyHeldWith ps (fun x => offSlots_applyDefine x s)
  | retire => exact offSlots_applyHeldWith ps (fun id => offSlots_applyRetire id s)
  | tune => exact offSlots_applyHeldWith ps (fun x => offSlots_applyTune x s)
  | clear => exact offSlots_applyHeldWith ps (fun id => offSlots_applyClear id s)
  | setWindow => exact offSlots_applyHeldWith ps (fun x => offSlots_applySetWindow x s)
  | joinPair => exact offSlots_applyHeldWith ps (fun x => offSlots_applyJoinPair x s)
  | bindInput => exact offSlots_applyHeldWith ps (fun x => offSlots_applyBind x s)
  | startWindow | stopWindow | presetWindow | setAutosave | unfreeze =>
    exact offSlots_applyHeldWith ps (fun _ => ⟨rfl, rfl⟩)

theorem offSlots_applyConfirm (p : Port) (n : Word16) (s : State) : s.OffSlots (applyConfirm p n s).1 := by
  have hconfirm : ∀ k q, s.OffSlots (s.confirmProposal k q).1 := by
    intro k q
    have hclose : ∀ o, s.OffSlots ((applyHeld q.code q.params s).1.closeProposal k o) :=
      fun o => (offSlots_applyHeld q.code q.params s).trans (State.offSlots_closeProposal _ k o)
    unfold State.confirmProposal
    dsimp only
    split
    · exact (hclose _).trans (State.offSlots_discardOpen _)
    · exact hclose _
  unfold applyConfirm
  split
  · exact .refl s
  · split
    · exact .refl s
    · split
      · exact .refl s
      · split
        · exact .refl s
        · exact hconfirm _ _

theorem offSlots_applyWithdraw (p : Port) (n : Word16) (s : State) : s.OffSlots (applyWithdraw p n s).1 := by
  unfold applyWithdraw
  split
  · exact .refl s
  · split
    · exact .refl s
    · split
      · exact .refl s
      · split
        · exact s.offSlots_closeProposal _ _
        · exact .refl s

theorem offSlots_applyReadProposal (p : Port) (n : Word16) (s : State) : s.OffSlots (applyReadProposal p n s).1 := by
  unfold applyReadProposal
  split
  · exact .refl s
  · split
    · exact .refl s
    · split
      · exact .refl s
      · dsimp only
        split
        · exact ⟨rfl, rfl⟩
        · exact .refl s

theorem State.offSlots_direct {α : Type} {s : State} {ident : List Byte → List Byte} {parse : List Byte → Option α}
    {apply : α → State → State × Answer} (ps : List Byte) (h : ∀ x, s.OffSlots (apply x s).1) :
    s.OffSlots (s.direct ident parse apply ps).1 := by
  unfold State.direct
  split
  · exact .refl s
  · exact h _

theorem State.offSlots_structural {α : Type} {s : State} {p : Port} {code : StructuralCode}
    {ident : List Byte → List Byte} {parse : List Byte → Option α} {apply : α → State → State × Answer}
    (ps : List Byte) (h : ∀ x, s.OffSlots (apply x s).1) :
    s.OffSlots (s.structural p code ident parse apply ps).1 := by
  unfold State.structural
  split
  · exact .refl s
  · split
    · exact s.offSlots_makeProposal _ _ _
    · exact h _

/-- No request of a command touches a slot or the arbiter: its answer alone is placed, when it ends (R5, R160). -/
theorem offSlots_commandRequest (c : Instr) (ps : List Byte) (s : State) : s.OffSlots (commandRequest c ps s).1 := by
  cases c with
  | define p => exact State.offSlots_structural ps (fun x => offSlots_applyDefine x s)
  | retire p => exact State.offSlots_structural ps (fun id => offSlots_applyRetire id s)
  | tune p => exact State.offSlots_structural ps (fun x => offSlots_applyTune x s)
  | clear p => exact State.offSlots_structural ps (fun id => offSlots_applyClear id s)
  | report p => exact State.offSlots_direct ps (fun items => offSlots_applyReport p items s)
  | ack p => exact State.offSlots_direct ps (fun seq => offSlots_applyAck p seq s)
  | setWindow p => exact State.offSlots_structural ps (fun x => offSlots_applySetWindow x s)
  | joinPair p => exact State.offSlots_structural ps (fun x => offSlots_applyJoinPair x s)
  | bindInput p => exact State.offSlots_structural ps (fun x => offSlots_applyBind x s)
  | freeze p => exact State.offSlots_direct ps (fun l => offSlots_applyFreeze l s)
  | confirm p => exact State.offSlots_direct ps (fun n => offSlots_applyConfirm p n s)
  | withdraw p => exact State.offSlots_direct ps (fun n => offSlots_applyWithdraw p n s)
  | readProposal p => exact State.offSlots_direct ps (fun n => offSlots_applyReadProposal p n s)
  | audit p => exact State.offSlots_direct ps (fun resume => offSlots_applyAudit resume s)
  | startWindow | stopWindow | presetWindow | unfreeze | setAutosave =>
    exact State.offSlots_structural ps (fun _ => ⟨rfl, rfl⟩)
  | setNotice | identify | readEntry | list | readVerdict | readHistory | readWindow | readInput | readRetention
  | readAudit => exact State.offSlots_direct ps (fun _ => ⟨rfl, rfl⟩)
  | _ => exact .refl s

/-! ## The arbiter -/

theorem State.canTake_iff (s : State) (p : Port) (test : Byte → Bool) :
    s.canTake p test = true ↔ s.ready = true ∧ s.nextGrant = some p ∧ test (s.slot p).code = true := by
  simp only [State.canTake, Bool.and_eq_true, beq_iff_eq, and_assoc]

/-- A part that is not READY, a port the arbiter does not grant, or a code that the slot does not hold: nothing is
taken. -/
theorem State.canTake_eq_false {s : State} {p : Port} {test : Byte → Bool}
    (h : s.ready = false ∨ s.nextGrant ≠ some p ∨ test (s.slot p).code = false) : s.canTake p test = false := by
  refine Bool.eq_false_iff.mpr (fun hc => ?_)
  obtain ⟨hr, hn, ht⟩ := (s.canTake_iff p test).mp hc
  obtain h | h | h := h
  · rw [hr] at h; cases h
  · exact h hn
  · rw [ht] at h; cases h

/-- A request that leaves the slots to its answer makes its port the last granted one. -/
theorem State.takeCommand_lastGranted {s : State} {p : Port} {code : Byte} {ps : List Byte} (h : s.Granted p code ps)
    {test : Byte → Bool} (ht : test code = true) {request : List Byte → State → State × Answer}
    (hr : (s.grant p).OffSlots (request ps (s.grant p)).1) :
    (s.takeCommand p test request).lastGranted = some p := by
  rw [State.takeCommand_of_granted h ht, State.placeAnswer_ports]
  exact hr.lastGranted

theorem State.requestPortSave_lastGranted (s : State) (p : Port) :
    (s.requestPortSave p).lastGranted = s.lastGranted := by
  have hplace : ∀ a, (s.placeAnswer p a).lastGranted = s.lastGranted := fun a => by rw [State.placeAnswer_ports]
  unfold State.requestPortSave
  split
  · exact hplace _
  · split
    · exact hplace _
    · rfl
  · split
    · exact hplace _
    · rfl
  · split
    · exact hplace _
    · rfl
  · exact hplace _
  · exact hplace _

theorem execSave_lastGranted {s t : State} {p : Port} {ps : List Byte} (h : s.Granted p 0x60 ps)
    (hexec : execSave p s = .next t) : t.lastGranted = some p := by
  cases hexec
  rw [if_pos (State.canTake_of_granted h rfl)]
  split
  · rw [State.requestPortSave_lastGranted]; rfl
  · rw [State.placeAnswer_ports]; rfl

/-- A granted command makes its port the last granted one (R159). -/
theorem exec_command_lastGranted {c : Instr} {p : Port} {code : Byte} {ps : List Byte} {s : State}
    (hc : portAndCode c = some (p, code)) (h : s.Granted p code ps) :
    ∃ t, exec c s = .next t ∧ t.lastGranted = some p := by
  by_cases hsave : code = 0x60
  · subst hsave
    obtain rfl := eq_save_of_code hc
    exact ⟨_, rfl, execSave_lastGranted h rfl⟩
  · exact ⟨_, exec_command hc hsave s,
      State.takeCommand_lastGranted (test := fun x => x == code) h (beq_self_eq_true code)
        (offSlots_commandRequest c ps _)⟩

/-- A command that is not taken changes nothing (log entry 1). -/
theorem exec_command_of_not {c : Instr} {p : Port} {code : Byte} {s : State} (hc : portAndCode c = some (p, code))
    (h : s.ready = false ∨ s.nextGrant ≠ some p ∨ (s.slot p).code ≠ code) : exec c s = .next s := by
  have htake : s.canTake p (· == code) = false :=
    State.canTake_eq_false (h.imp_right (Or.imp_right (fun hne => beq_eq_false_iff_ne.mpr hne)))
  by_cases hsave : code = 0x60
  · subst hsave
    obtain rfl := eq_save_of_code hc
    show execSave p s = .next s
    simp only [execSave, htake, Bool.false_eq_true, if_false]
  · rw [exec_command hc hsave, State.takeCommand_of_not htake]

/-- The first WAITING slot of a search order (R159). -/
theorem find_waiting (s : State) (x y z : Port) :
    ((s.slot x).state = .waiting → [x, y, z].find? (fun p => (s.slot p).state == .waiting) = some x) ∧
    ((s.slot x).state ≠ .waiting → (s.slot y).state = .waiting →
      [x, y, z].find? (fun p => (s.slot p).state == .waiting) = some y) ∧
    ((s.slot x).state ≠ .waiting → (s.slot y).state ≠ .waiting → (s.slot z).state = .waiting →
      [x, y, z].find? (fun p => (s.slot p).state == .waiting) = some z) ∧
    ((s.slot x).state ≠ .waiting → (s.slot y).state ≠ .waiting → (s.slot z).state ≠ .waiting →
      [x, y, z].find? (fun p => (s.slot p).state == .waiting) = none) := by
  refine ⟨fun hx => ?_, fun hx hy => ?_, fun hx hy hz => ?_, fun hx hy hz => ?_⟩ <;> simp [*]

/-- The port granted last is the last one searched (R159). -/
theorem searchOrder_last {q r : Port} (hr : r ≠ q) :
    ∃ u v, searchOrder (some q) = [u, v, q] ∧ u ≠ q ∧ v ≠ q ∧ (r = u ∨ r = v) := by
  cases q
  · exact ⟨.b, .c, rfl, by decide, by decide, by revert hr; cases r <;> decide⟩
  · exact ⟨.c, .a, rfl, by decide, by decide, by revert hr; cases r <;> decide⟩
  · exact ⟨.a, .b, rfl, by decide, by decide, by revert hr; cases r <;> decide⟩

/-- A port just granted is not granted again while another one waits (R159). -/
theorem nextGrant_ne_last {s : State} {q r : Port} (hq : s.lastGranted = some q) (hr : r ≠ q)
    (hw : (s.slot r).state = .waiting) : s.nextGrant ≠ some q := by
  obtain ⟨u, v, horder, hu, hv, huv⟩ := searchOrder_last hr
  obtain ⟨hfirst, hsecond, -, -⟩ := find_waiting s u v q
  unfold State.nextGrant
  rw [hq, horder]
  by_cases hwu : (s.slot u).state = .waiting
  · rw [hfirst hwu]; simpa using hu
  · have hrv : r = v := huv.resolve_left (fun h => hwu (h ▸ hw))
    rw [hsecond hwu (hrv ▸ hw)]; simpa using hv

/-- Settles O60, by the search order and by what a request leaves to the arbiter. -/
theorem theArbiterGrantsInTurn : Obligations.TheArbiterGrantsInTurn := by
  unfold Obligations.TheArbiterGrantsInTurn
  refine ⟨?_, fun s q r hq hr hw => nextGrant_ne_last hq hr hw, fun c p code ps s hc h => exec_command_lastGranted hc h,
    fun c p code s hc h => exec_command_of_not hc h, fun p s h => ?_, fun s => ?_⟩
  · intro s x y z horder
    have hsearch : searchOrder s.lastGranted = [x, y, z] := by
      revert horder
      rcases s.lastGranted with _ | ⟨_ | _ | _⟩ <;> intro horder <;> cases horder <;> rfl
    have hnext : s.nextGrant = [x, y, z].find? (fun p => (s.slot p).state == .waiting) := by
      rw [← hsearch]; rfl
    rw [hnext]
    exact find_waiting s x y z
  · have htake : s.canTake p (fun code => !knownCodes.contains code) = false := by
      refine State.canTake_eq_false (h.imp_right (Or.imp_right (fun hc => ?_)))
      simpa using (mem_knownCodes_iff p _).mpr hc
    show Host.Outcome.next _ = _
    rw [State.takeCommand_of_not htake]
  · simp only [State.ready, State.live, Bool.and_eq_true, Bool.not_eq_true', bne_iff_ne, and_assoc]

end Sys2Proof.Machine
end

section
/-! PROOFS. The range checks of the model are those of chapter 10 written out (R6, R167): parser by parser, then command
by command (O21). -/

namespace Sys2Proof.Machine

/-! ## Fields -/

theorem word16_toNat (hi lo : Byte) : (word16 hi lo).toNat = hi.toNat * 256 + lo.toNat := by
  rw [word16, BitVec.toNat_append, ← Nat.shiftLeft_add_eq_or_of_lt lo.isLt, Nat.shiftLeft_eq]

theorem within_iff (lo x hi : Nat) : within lo x hi = true ↔ lo ≤ x ∧ x ≤ hi := by simp [within]

/-- A code that is one of those from 0 to `hi`, by the test that the manual gives. -/
theorem isSome_eq_within {α : Type} {o : Option α} {lo x hi : Nat} (h : o.isSome = true ↔ lo ≤ x ∧ x ≤ hi) :
    o.isSome = within lo x hi := Bool.eq_iff_iff.mpr (h.trans (within_iff lo x hi).symm)

theorem classOf_isSome (x : Byte) : (classOf x).isSome = within 1 x.toNat 2 := by
  refine isSome_eq_within ?_
  unfold classOf
  split <;> simp only [Option.isSome_some, Option.isSome_none, true_iff, false_iff, Bool.false_eq_true,
    imp_false] at * <;> omega

theorem maskOf_isSome (x : Byte) : (maskOf x).isSome = within 0 x.toNat 2 := by
  refine isSome_eq_within ?_
  unfold maskOf
  split <;> simp only [Option.isSome_some, Option.isSome_none, true_iff, false_iff, Bool.false_eq_true,
    imp_false] at * <;> omega

theorem flagOf_isSome (x : Byte) : (flagOf x).isSome = within 0 x.toNat 1 := by
  refine isSome_eq_within ?_
  unfold flagOf
  split <;> simp only [Option.isSome_some, Option.isSome_none, true_iff, false_iff, Bool.false_eq_true,
    imp_false] at * <;> omega

theorem filterOf_isSome (x : Byte) : (filterOf x).isSome = within 0 x.toNat 3 := by
  refine isSome_eq_within ?_
  unfold filterOf
  split <;> simp only [Option.isSome_some, Option.isSome_none, true_iff, false_iff, Bool.false_eq_true,
    imp_false] at * <;> omega

theorem edgeOf_isSome (x : Byte) : (edgeOf x).isSome = within 0 x.toNat 1 := by
  refine isSome_eq_within ?_
  unfold edgeOf
  split <;> simp only [Option.isSome_some, Option.isSome_none, true_iff, false_iff, Bool.false_eq_true,
    imp_false] at * <;> omega

theorem dividerOf_isSome (x : Byte) : (dividerOf x).isSome = within 0 x.toNat 7 := by
  refine isSome_eq_within ?_
  unfold dividerOf
  split <;> simp only [Option.isSome_some, Option.isSome_none, true_iff, false_iff, Bool.false_eq_true,
    imp_false] at * <;> omega

theorem four?_isSome (n : Nat) : (four? n).isSome = within 0 n 3 := by
  refine isSome_eq_within ?_
  unfold four?
  split <;> simp only [Option.isSome_some, Option.isSome_none, true_iff, false_iff, Bool.false_eq_true] <;> omega

theorem eight?_isSome (n : Nat) : (eight? n).isSome = within 0 n 7 := by
  refine isSome_eq_within ?_
  unfold eight?
  split <;> simp only [Option.isSome_some, Option.isSome_none, true_iff, false_iff, Bool.false_eq_true] <;> omega

theorem sourceOf_isSome (source selector : Byte) : (sourceOf source selector).isSome =
    ((source.toNat == 0 && within 0 selector.toNat 7) || (source.toNat == 1 && within 0 selector.toNat 3)) := by
  unfold sourceOf
  split
  · next h => simp [h, dividerOf_isSome]
  · next h => simp [h, four?_isSome]
  · next h0 h1 => simp [beq_false_of_ne h0, beq_false_of_ne h1]

theorem idOk_eq (x : Byte) : idOk x = within 1 x.toNat 254 := rfl

theorem setOk_eq (x : Byte) : setOk x = within 0 x.toNat 7 := by simp [setOk, within]

theorem tripOk_eq (x : Byte) : tripOk x = tripField x.toNat := by
  rw [Bool.eq_iff_iff, tripOk_iff]; simp [tripField]

theorem word16_eq_zero (hi lo : Byte) : word16 hi lo = 0#16 ↔ hi.toNat = 0 ∧ lo.toNat = 0 := by
  rw [← BitVec.toNat_inj, word16_toNat, BitVec.toNat_ofNat]; omega

theorem byte_eq_zero (x : Byte) : x = 0#8 ↔ x.toNat = 0 := by rw [← BitVec.toNat_inj]; rfl

theorem parseKind_isSome (kind a1 a0 w n : Byte) : (parseKind kind (word16 a1 a0) w n).isSome =
    ((kind.toNat == 1 && a1.toNat * 256 + a0.toNat == 0 && w.toNat == 0 && n.toNat == 0)
      || (kind.toNat == 2 && within 0 w.toNat 7 && within 0 n.toNat 15)
      || (kind.toNat == 3 && w.toNat == 0 && n.toNat == 0)) := by
  rw [Bool.eq_iff_iff]
  unfold parseKind
  split
  · next h => simp [h, word16_eq_zero, byte_eq_zero, and_assoc]
  · next h =>
    rw [h, ← eight?_isSome]
    cases eight? w.toNat <;> simp [within]
  · next h => simp [h, byte_eq_zero]
  · next h1 h2 h3 => simp [beq_false_of_ne h1, beq_false_of_ne h2, beq_false_of_ne h3]

/-! ## Blocks -/

/-- A block with one field is right when it is one byte and the field is. -/
theorem oneField_isSome {α : Type} {parse : List Byte → Option α} {lo hi : Nat} (hnil : parse [] = none)
    (hlong : ∀ x y xs, parse (x :: y :: xs) = none) (hone : ∀ x, (parse [x]).isSome = within lo x.toNat hi)
    (ps : List Byte) : (parse ps).isSome = (ps.length == 1 && within lo (field8 0 ps) hi) := by
  match ps with
  | [] => simp [hnil]
  | [x] => simp [hone, field8]
  | x :: y :: xs => simp [hlong]

theorem parseId_isSome (ps : List Byte) : (parseId ps).isSome = blockOk 0x11 ps :=
  oneField_isSome rfl (fun _ _ _ => rfl) (fun x => by rw [← idOk_eq, Bool.eq_iff_iff]; simp [parseId]) ps

theorem parseAfter_isSome (ps : List Byte) : (parseAfter ps).isSome = blockOk 0x15 ps :=
  oneField_isSome rfl (fun _ _ _ => rfl) (fun x => by rw [Bool.eq_iff_iff]; simp [parseAfter, within]) ps

theorem parseCounter_isSome (ps : List Byte) : (parseCounter ps).isSome = blockOk 0x32 ps :=
  oneField_isSome rfl (fun _ _ _ => rfl) (fun x => eight?_isSome x.toNat) ps

theorem parseInput_isSome (ps : List Byte) : (parseInput ps).isSome = blockOk 0x41 ps :=
  oneField_isSome rfl (fun _ _ _ => rfl) (fun x => four?_isSome x.toNat) ps

theorem parseByte_isSome (ps : List Byte) : (parseByte ps).isSome = blockOk 0x23 ps :=
  oneField_isSome rfl (fun _ _ _ => rfl)
    (fun x => by simp [parseByte, within, Nat.lt_succ_iff.mp x.isLt]) ps

theorem parseMask_isSome (ps : List Byte) : (parseMask ps).isSome = blockOk 0x22 ps :=
  oneField_isSome rfl (fun _ _ _ => rfl) maskOf_isSome ps

theorem parseAuditMode_isSome (ps : List Byte) : (parseAuditMode ps).isSome = blockOk 0x63 ps := by
  refine oneField_isSome rfl (fun _ _ _ => rfl) (fun x => isSome_eq_within ?_) ps
  unfold parseAuditMode
  dsimp only
  split <;> simp only [Option.isSome_some, Option.isSome_none, true_iff, false_iff, Bool.false_eq_true,
    imp_false] at * <;> omega

theorem parseWord_isSome (ps : List Byte) : (parseWord ps).isSome = blockOk 0x21 ps := by
  show _ = (ps.length == 2)
  match ps with
  | [] | [_] | [_, _] => rfl
  | _ :: _ :: _ :: xs => simp [parseWord]

theorem parseNone_isSome (ps : List Byte) : (parseNone ps).isSome = blockOk 0x01 ps := by
  show _ = (ps.length == 0)
  cases ps <;> simp [parseNone]

theorem parseLifetime_isSome (ps : List Byte) : (parseLifetime ps).isSome = blockOk 0x50 ps := by
  show _ = (ps.length == 2 && (field16 0 ps == 0 || within 100 (field16 0 ps) 60000))
  match ps with
  | [] | [_] => rfl
  | [hi, lo] =>
    rw [Bool.eq_iff_iff]
    simp [parseLifetime, field16, field8, within, word16_eq_zero, word16_toNat]
  | _ :: _ :: _ :: xs => simp [parseLifetime]

theorem parseJoinPair_isSome (ps : List Byte) : (parseJoinPair ps).isSome = blockOk 0x31 ps := by
  show _ = (ps.length == 2 && within 0 (field8 0 ps) 3 && within 0 (field8 1 ps) 1)
  match ps with
  | [] | [_] => rfl
  | [k, action] =>
    simp only [parseJoinPair, field8, List.getD_cons_zero, List.getD_cons_succ]
    rw [← four?_isSome k.toNat, ← flagOf_isSome action]
    cases four? k.toNat <;> cases flagOf action <;> rfl
  | _ :: _ :: _ :: xs => simp [parseJoinPair]

theorem parseAutosave_isSome (ps : List Byte) : (parseAutosave ps).isSome = blockOk 0x61 ps := by
  show _ = (ps.length == 3 && within 0 (field8 0 ps) 1 && within 0 (field16 1 ps) 1440)
  match ps with
  | [] | [_] | [_, _] => rfl
  | [on, i1, i0] =>
    simp only [parseAutosave, field16, field8, List.getD_cons_zero, List.getD_cons_succ, word16_toNat]
    rw [← flagOf_isSome on, Bool.eq_iff_iff]
    cases flagOf on <;> simp [within]
  | _ :: _ :: _ :: _ :: xs => simp [parseAutosave]

theorem parseBind_isSome (ps : List Byte) : (parseBind ps).isSome = blockOk 0x40 ps := by
  show _ = (ps.length == 4 && within 0 (field8 0 ps) 3 && within 0 (field8 1 ps) 254 && within 0 (field8 2 ps) 3
      && within 0 (field8 3 ps) 1)
  match ps with
  | [] | [_] | [_, _] | [_, _, _] => rfl
  | [input, id, filter, edge] =>
    simp only [parseBind, field8, List.getD_cons_zero, List.getD_cons_succ]
    rw [← four?_isSome input.toNat, ← filterOf_isSome filter, ← edgeOf_isSome edge, Bool.eq_iff_iff]
    cases four? input.toNat <;> cases filterOf filter <;> cases edgeOf edge <;> simp [within]
  | _ :: _ :: _ :: _ :: _ :: xs => simp [parseBind]

theorem parseSetWindow_isSome (ps : List Byte) : (parseSetWindow ps).isSome = blockOk 0x30 ps := by
  show _ = (ps.length == 7 && within 0 (field8 0 ps) 7 && field16 3 ps != 0
      && ((field8 1 ps == 0 && within 0 (field8 2 ps) 7) || (field8 1 ps == 1 && within 0 (field8 2 ps) 3)))
  unfold parseSetWindow
  split
  · next w source selector r1 r0 c1 c0 =>
    simp only [field16, field8, List.getD_cons_zero, List.getD_cons_succ]
    rw [← eight?_isSome w.toNat, ← sourceOf_isSome source selector, Bool.eq_iff_iff]
    cases eight? w.toNat <;> cases sourceOf source selector <;> simp [word16_eq_zero]
  · next hne =>
    have hlen : ps.length ≠ 7 := fun hl => by
      match ps, hl with
      | [_, _, _, _, _, _, _], _ => exact hne _ _ _ _ _ _ _ rfl
    simp [hlen]

theorem parseDefine_isSome (ps : List Byte) : (parseDefine ps).isSome = blockOk 0x10 ps := by
  show _ = (ps.length == 11 && within 1 (field8 0 ps) 254 && within 1 (field8 2 ps) 2 && within 0 (field8 3 ps) 7
      && tripField (field8 4 ps) && field16 5 ps != 0
      && ((field8 1 ps == 1 && field16 7 ps == 0 && field8 9 ps == 0 && field8 10 ps == 0)
        || (field8 1 ps == 2 && within 0 (field8 9 ps) 7 && within 0 (field8 10 ps) 15)
        || (field8 1 ps == 3 && field8 9 ps == 0 && field8 10 ps == 0)))
  unfold parseDefine
  split
  · next id kind cls set trip s1 s0 a1 a0 w n =>
    simp only [field16, field8, List.getD_cons_zero, List.getD_cons_succ]
    rw [← classOf_isSome cls, ← parseKind_isSome kind a1 a0 w n, ← idOk_eq, ← setOk_eq, ← tripOk_eq, Bool.eq_iff_iff]
    cases classOf cls <;> cases parseKind kind (word16 a1 a0) w n <;> simp [word16_eq_zero, and_assoc]
  · next hne =>
    have hlen : ps.length ≠ 11 := fun hl => by
      match ps, hl with
      | [_, _, _, _, _, _, _, _, _, _, _], _ => exact hne _ _ _ _ _ _ _ _ _ _ _ rfl
    simp [hlen]

theorem parseTune_isSome (ps : List Byte) : (parseTune ps).isSome = blockOk 0x12 ps := by
  show _ = (ps.length == 9 && within 1 (field8 0 ps) 254 && within 1 (field8 1 ps) 2 && within 0 (field8 2 ps) 7
      && tripField (field8 3 ps) && field16 4 ps != 0 && within 0 (field8 8 ps) 15)
  unfold parseTune
  split
  · next id cls set trip s1 s0 a1 a0 n =>
    simp only [field16, field8, List.getD_cons_zero, List.getD_cons_succ]
    rw [← classOf_isSome cls, ← idOk_eq, ← setOk_eq, ← tripOk_eq, Bool.eq_iff_iff]
    cases classOf cls <;> simp [word16_eq_zero, within, and_assoc]
  · next hne =>
    have hlen : ps.length ≠ 9 := fun hl => by
      match ps, hl with
      | [_, _, _, _, _, _, _, _, _], _ => exact hne _ _ _ _ _ _ _ _ _ rfl
    simp [hlen]

theorem parseItems_isSome (n : Nat) (ps : List Byte) : (parseItems n ps).isSome = (ps.length == 3 * n) := by
  induction n generalizing ps with
  | zero => cases ps <;> simp [parseItems]
  | succ n ih =>
    match ps with
    | [] => simp [parseItems]
    | [_] => simp [parseItems]; omega
    | [_, _] => simp [parseItems]; omega
    | id :: hi :: lo :: rest =>
      rw [parseItems, Option.isSome_map, ih, Bool.eq_iff_iff]
      simp only [beq_iff_eq, List.length_cons]
      omega

theorem parseReport_isSome (ps : List Byte) : (parseReport ps).isSome = blockOk 0x16 ps := by
  show _ = (within 1 (field8 0 ps) 8 && ps.length == 1 + 3 * field8 0 ps)
  cases ps with
  | nil => rfl
  | cons n rest =>
    have hlen : ((n :: rest).length == 1 + 3 * n.toNat) = (rest.length == 3 * n.toNat) := by
      rw [Bool.eq_iff_iff]; simp; omega
    simp only [parseReport, field8, List.getD_cons_zero, hlen, ← parseItems_isSome, within]
    split
    · next h => simp [h]
    · next h => rw [← Bool.decide_and, decide_eq_false h]; rfl

/-! ## A block out of range is refused (R6, R168) -/

theorem none_of_isSome {α : Type} {o : Option α} {b : Bool} (h : o.isSome = b) (hb : b = false) : o = none := by
  rw [hb] at h; simpa using h

/-- A command of 10.2 with a block that its range check refuses: BAD_PARAM and its identifier field, on a frozen and an
unfrozen table. -/
theorem commandRequest_bad {c : Instr} {p : Port} {code : Byte} {ps : List Byte} (hc : portAndCode c = some (p, code))
    (hsave : code ≠ 0x60) (hb : blockOk code ps = false) (t : State) :
    commandRequest c ps t = (t, ⟨.badParam, identifier t code ps⟩) := by
  cases c <;> cases hc <;> dsimp only [commandRequest]
  case save => exact absurd rfl hsave
  case define => exact t.structural_bad _ _ _ _ _ (none_of_isSome (parseDefine_isSome ps) hb)
  case tune => exact t.structural_bad _ _ _ _ _ (none_of_isSome (parseTune_isSome ps) hb)
  case retire | clear => exact t.structural_bad _ _ _ _ _ (none_of_isSome (parseId_isSome ps) hb)
  case setWindow => exact t.structural_bad _ _ _ _ _ (none_of_isSome (parseSetWindow_isSome ps) hb)
  case joinPair => exact t.structural_bad _ _ _ _ _ (none_of_isSome (parseJoinPair_isSome ps) hb)
  case startWindow | stopWindow | presetWindow =>
    exact t.structural_bad _ _ _ _ _ (none_of_isSome (parseCounter_isSome ps) hb)
  case bindInput => exact t.structural_bad _ _ _ _ _ (none_of_isSome (parseBind_isSome ps) hb)
  case setAutosave => exact t.structural_bad _ _ _ _ _ (none_of_isSome (parseAutosave_isSome ps) hb)
  case unfreeze => exact t.structural_bad _ _ _ _ _ (none_of_isSome (parseNone_isSome ps) hb)
  case readEntry => exact t.direct_bad (identAt 0) _ _ (none_of_isSome (parseId_isSome ps) hb)
  case list | readVerdict => exact t.direct_bad noIdent _ _ (none_of_isSome (parseAfter_isSome ps) hb)
  case report => exact t.direct_bad reportIdent _ _ (none_of_isSome (parseReport_isSome ps) hb)
  case ack | confirm | withdraw | readProposal =>
    exact t.direct_bad noIdent _ _ (none_of_isSome (parseWord_isSome ps) hb)
  case setNotice => exact t.direct_bad noIdent _ _ (none_of_isSome (parseMask_isSome ps) hb)
  case readHistory => exact t.direct_bad noIdent _ _ (none_of_isSome (parseByte_isSome ps) hb)
  case readWindow => exact t.direct_bad (identAt 0) _ _ (none_of_isSome (parseCounter_isSome ps) hb)
  case readInput => exact t.direct_bad (identAt 0) _ _ (none_of_isSome (parseInput_isSome ps) hb)
  case freeze => exact t.direct_bad noIdent _ _ (none_of_isSome (parseLifetime_isSome ps) hb)
  case audit => exact t.direct_bad (fun _ => t.auditIdent) _ _ (none_of_isSome (parseAuditMode_isSome ps) hb)
  case identify | readRetention | readAudit =>
    exact t.direct_bad noIdent _ _ (none_of_isSome (parseNone_isSome ps) hb)

/-- A SAVE with parameters is refused like any other command (R135). -/
theorem execSave_bad {s : State} {p : Port} {ps : List Byte} (h : s.Granted p 0x60 ps) (hb : blockOk 0x60 ps = false) :
    execSave p s = .next (s.answered p ⟨.badParam, []⟩) := by
  unfold execSave
  rw [if_pos (State.canTake_of_granted h rfl), h.params, none_of_isSome (parseNone_isSome ps) hb]
  exact congrArg Host.Outcome.next (s.placeAnswer_grant p _)

/-- Settles O21, by the range check of each command. -/
theorem refusedBlocksAndUnknownCodes : Obligations.RefusedBlocksAndUnknownCodes := by
  unfold Obligations.RefusedBlocksAndUnknownCodes
  refine ⟨fun c p code ps s hc h hb => ?_, fun s p code ps h hunknown => ?_⟩
  · by_cases hsave : code = 0x60
    · subst hsave
      obtain rfl := eq_save_of_code hc
      exact execSave_bad h hb
    · rw [exec_command hc hsave]
      exact congrArg Host.Outcome.next
        (State.takeCommand_answer (test := fun x => x == code) h (beq_self_eq_true code)
          (commandRequest_bad hc hsave hb (s.grant p)))
  · have htest : (!knownCodes.contains code) = true := by
      have hmem : code ∉ knownCodes := fun hk => by
        obtain ⟨c, hc⟩ := (mem_knownCodes_iff p code).mp hk
        exact hunknown c hc
      simpa using hmem
    exact congrArg Host.Outcome.next
      (State.takeCommand_answer (test := fun code => !knownCodes.contains code) h htest rfl)

end Sys2Proof.Machine
end

section
/-! PROOFS. The front of the queue, the invariants at reset, and what the commands that read the table answer (O1, O4,
O16, O17). -/

namespace Sys2Proof.Machine

/-- Settles O1, by the two cases of a step. -/
theorem stepRunsTheFrontCommand : Obligations.StepRunsTheFrontCommand := by
  unfold Obligations.StepRunsTheFrontCommand
  refine ⟨fun c rest s h => ?_, fun s h => ?_⟩ <;> simp only [step, h]

/-! ## The invariants at reset -/

theorem reset_counterInv : State.reset.CounterInv := fun w =>
  ⟨by revert w; decide, fun _ => by revert w; decide, fun i h => absurd h (by revert w i; decide)⟩

theorem reset_proposalInv : State.reset.ProposalInv := by
  have free : ∀ k : Fin 4, State.reset.proposals[k] = none := by decide
  have notClosed : ∀ k : Fin 4, ¬ State.reset.isClosed k := fun k ⟨q, o, h, _⟩ => by rw [free k] at h; cases h
  refine ⟨by decide, fun k q h => ?_, fun j k q r h _ => ?_, by decide, ⟨List.nodup_nil, fun k => ?_⟩,
    ⟨List.nodup_nil, by decide⟩, fun _ => free⟩
  · rw [free k] at h; cases h
  · rw [free j] at h; cases h
  · exact ⟨fun h => absurd h List.not_mem_nil, fun h => absurd h (notClosed k)⟩

theorem reset_slotInv : State.reset.SlotInv := by
  have hslot : ∀ p, State.reset.slot p = Slot.reset := fun p => by cases p <;> rfl
  have hholds : ∀ p, ¬ State.reset.holdsPort p := fun p ⟨sv, w, h, _⟩ => nomatch h
  intro p
  rw [hslot]
  exact ⟨by decide, ⟨fun h => (nomatch h), fun h => absurd h (hholds p)⟩, fun _ => ⟨rfl, rfl⟩,
    fun sv x h => (nomatch h)⟩

/-- Settles O4, invariant by invariant. -/
theorem resetStateMeetsTheInvariants : Obligations.ResetStateMeetsTheInvariants := by
  unfold Obligations.ResetStateMeetsTheInvariants
  have htable : State.reset.TableInv :=
    (State.tableInv_iff _).mpr ⟨tableOk_nil, fun _ h => (nomatch h), fun _ _ h => (nomatch h)⟩
  have hbinding : State.reset.BindingInv := fun i id h =>
    absurd h (by rw [(by decide : ∀ i : Fin 4, (State.reset.inputs[i]).binding = none) i]; simp)
  have hjoin : State.reset.JoinInv := fun k _ e he => nomatch he
  have hverdict : State.reset.VerdictInv :=
    ⟨fun _ => ⟨rfl, rfl⟩, fun h => absurd ⟨rfl, rfl⟩ h, by decide, ⟨rfl, rfl, rfl⟩, trivial⟩
  have haudit : State.reset.AuditInv := ⟨by decide, rfl, by decide, by decide⟩
  have hretention : State.reset.RetentionInv :=
    ⟨fun _ h => (nomatch h), fun _ _ h => (nomatch h), by decide, by decide, by decide, by decide, fun _ => rfl⟩
  exact ⟨htable, hbinding, hjoin, hverdict, reset_counterInv, reset_proposalInv, haudit, hretention, reset_slotInv⟩

/-! ## READ_ENTRY -/

theorem parseId_one {id : Byte} (h : 1 ≤ id.toNat) (h' : id.toNat ≤ 254) : parseId [id] = some id :=
  if_pos ((idOk_iff id).mpr ⟨h, h'⟩)

/-- A granted command that reads is answered from the state it finds, and nothing else moves. -/
theorem exec_read {s : State} {p : Port} {code : Byte} {ps : List Byte} {α : Type} {ident : List Byte → List Byte}
    {parse : List Byte → Option α} {answer : State → α → Answer} {x : α} (h : s.Granted p code ps)
    (hx : parse ps = some x) (ha : answer (s.grant p) x = answer s x) :
    s.takeCommand p (· == code) (fun ps t => t.direct ident parse (fun x u => (u, answer u x)) ps) =
      s.answered p (answer s x) := by
  refine State.takeCommand_answer (test := fun y => y == code) h (beq_self_eq_true code) ?_
  rw [← ha]
  exact State.direct_ok _ ident parse _ hx

/-- Settles O16, by the kinds of an entry. -/
theorem readEntryAnswersTheRecord : Obligations.ReadEntryAnswersTheRecord := by
  unfold Obligations.ReadEntryAnswersTheRecord
  refine ⟨fun s p id h h1 h2 => ?_, fun e => ?_⟩
  · refine congrArg Host.Outcome.next ((exec_read (answer := readEntryAnswer) h (parseId_one h1 h2) rfl).trans
      (congrArg (s.answered p) ?_))
    unfold readEntryAnswer
    cases findEntry id s.table <;> rfl
  · obtain ⟨id, cls, reporters, trip, step, grade, lowMark, everTripped, unsaved, kind⟩ := e
    cases cls <;> cases kind with
    | count total => rfl
    | rate a w n total tally last seen => cases last <;> rfl
    | level a r => cases r <;> rfl

/-! ## LIST, READ_VERDICT and READ_HISTORY -/

theorem parseAfter_one {after : Byte} (h : after.toNat ≤ 254) : parseAfter [after] = some after := if_pos h

/-- The length of a page of ids as its byte. -/
theorem byteOf_page (ids : List Byte) : byteOf (ids.take 16).length = BitVec.ofNat 8 (min 16 ids.length) := by
  rw [List.length_take]; rfl

theorem flagByte_decide (c : Prop) [Decidable c] : flagByte (decide c) = if c then 1 else 0 := by
  by_cases h : c <;> simp [flagByte, h]

/-- A history record in nine bytes, the two verdicts in one (10.4.2). -/
theorem HistoryRecord.bytes_eq (r : HistoryRecord) : r.bytes = be16 r.sequence ++
    [(match r.old with | .nominal => (0 : Byte) | .service => 0x10 | .urgent => 0x20) +
       (match r.new with | .nominal => (0 : Byte) | .service => 1 | .urgent => 2),
     r.cause.kindByte, r.cause.identifier] ++ be32 r.uptime := by
  obtain ⟨sequence, old, new, cause, uptime⟩ := r
  cases old <;> cases new <;> rfl

/-- Settles O17, page by page. -/
theorem listVerdictAndHistoryAnswerTheirPages : Obligations.ListVerdictAndHistoryAnswerTheirPages := by
  unfold Obligations.ListVerdictAndHistoryAnswerTheirPages
  refine ⟨⟨fun s p after h ha => ?_, fun s p after h ha => ?_⟩, fun s p skip h => ?_, fun p i w id => ⟨rfl, ?_⟩⟩
  · refine congrArg Host.Outcome.next ((exec_read (answer := listAnswer) h (parseAfter_one ha) rfl).trans
      (congrArg (s.answered p) ?_))
    simp only [listAnswer, byteOf_page]
    rw [flagByte_decide]
    rfl
  · refine congrArg Host.Outcome.next ((exec_read (answer := readVerdictAnswer) h (parseAfter_one ha) rfl).trans
      (congrArg (s.answered p) ?_))
    simp only [readVerdictAnswer, byteOf_page]
    rw [flagByte_decide]
    cases s.verdict <;> rfl
  · refine congrArg Host.Outcome.next ((exec_read (answer := readHistoryAnswer) h rfl rfl).trans
      (congrArg (s.answered p) ?_))
    simp only [readHistoryAnswer]
    rw [flagByte_decide, funext HistoryRecord.bytes_eq]
    rfl
  · cases p <;> rfl

end Sys2Proof.Machine
end

section
/-! PROOFS. DEFINE, RETIRE, TUNE and CLEAR on an unfrozen table: their state checks in order and what they do when they
are applied (O22 to O26); closes and early looks (O36). -/

namespace Sys2Proof.Machine

/-! ## What the blocks carry -/

theorem exists_of_isSome {α : Type} {o : Option α} {b : Bool} (h : o.isSome = b) (hb : b = true) : ∃ x, o = some x :=
  Option.isSome_iff_exists.mp (h.trans hb)

theorem word16_eq_ofNat (hi lo : Byte) : word16 hi lo = BitVec.ofNat 16 (hi.toNat * 256 + lo.toNat) := by
  rw [← word16_toNat, BitVec.ofNat_toNat, BitVec.setWidth_eq]

/-- A block that DEFINE's range check lets pass, field by field (R7, R8). -/
theorem parseDefine_some {ps : List Byte} {x : DefineParams} (h : parseDefine ps = some x) :
    ∃ id kind cls set trip s1 s0 a1 a0 w n c k, ps = [id, kind, cls, set, trip, s1, s0, a1, a0, w, n] ∧
      classOf cls = some c ∧ parseKind kind (word16 a1 a0) w n = some k ∧
      x = ⟨id, c, setOfByte set, trip.toNat, word16 s1 s0, k⟩ := by
  unfold parseDefine at h
  split at h
  · next id kind cls set trip s1 s0 a1 a0 w n =>
    split at h
    · next c k hc hk =>
      simp only [Option.ite_none_right_eq_some, Option.some.injEq] at h
      exact ⟨id, kind, cls, set, trip, s1, s0, a1, a0, w, n, c, k, rfl, hc, hk, h.2.symm⟩
    · cases h
  · cases h

theorem parseDefine_id {ps : List Byte} {x : DefineParams} (h : parseDefine ps = some x) : x.id = ps.getD 0 0 := by
  obtain ⟨id, kind, cls, set, trip, s1, s0, a1, a0, w, n, c, k, rfl, -, -, rfl⟩ := parseDefine_some h
  rfl

/-- A DEFINE of a RATE entry names the counter in its tenth byte. -/
theorem parseDefine_rate {ps : List Byte} {x : DefineParams} (h : parseDefine ps = some x) (hkind : field8 1 ps = 2)
    {w : Fin 8} (hw : field8 9 ps = w.val) : ∃ a n, x.kind = .rate a w n 0 0 none 0 := by
  obtain ⟨id, kind, cls, set, trip, s1, s0, a1, a0, v, n, c, k, rfl, -, hk, rfl⟩ := parseDefine_some h
  have hkind : kind.toNat = 2 := hkind
  have hw : v.toNat = w.val := hw
  simp only [parseKind, hkind, hw, eight?, w.isLt, dite_true, Option.ite_none_right_eq_some, Option.some.injEq] at hk
  exact ⟨_, _, hk.2.symm⟩

/-- A block that TUNE's range check lets pass, field by field (R13). -/
theorem parseTune_some {ps : List Byte} {x : TuneParams} (h : parseTune ps = some x) :
    ∃ id cls set trip s1 s0 a1 a0 n c, ps = [id, cls, set, trip, s1, s0, a1, a0, n] ∧ classOf cls = some c ∧
      x = ⟨id, c, setOfByte set, trip.toNat, word16 s1 s0, word16 a1 a0, n.toNat⟩ := by
  unfold parseTune at h
  split at h
  · next id cls set trip s1 s0 a1 a0 n =>
    split at h
    · next c hc =>
      simp only [Option.ite_none_right_eq_some, Option.some.injEq] at h
      exact ⟨id, cls, set, trip, s1, s0, a1, a0, n, c, rfl, hc, h.2.symm⟩
    · cases h
  · cases h

theorem parseTune_fields {ps : List Byte} {x : TuneParams} (h : parseTune ps = some x) :
    x.id = ps.getD 0 0 ∧ x.allowance = BitVec.ofNat 16 (field16 6 ps) ∧ x.settle = field8 8 ps := by
  obtain ⟨id, cls, set, trip, s1, s0, a1, a0, n, c, rfl, -, rfl⟩ := parseTune_some h
  exact ⟨rfl, word16_eq_ofNat a1 a0, rfl⟩

theorem parseId_some {ps : List Byte} {id : Byte} (h : parseId ps = some id) : id = ps.getD 0 0 := by
  unfold parseId at h
  split at h
  · simp only [Option.ite_none_right_eq_some, Option.some.injEq] at h
    exact h.2.symm
  · cases h

/-- The kind check of a TUNE is the one written from R13. -/
theorem TuneParams.kindFor_iff (x : TuneParams) (k k' : KindPart) :
    x.kindFor k = some k' ↔ TunesKind k x.allowance x.settle k' := by
  obtain ⟨id, cls, reporters, trip, step, allowance, settle⟩ := x
  constructor
  · intro h
    cases k with
    | count total =>
      simp only [TuneParams.kindFor, Option.ite_none_right_eq_some, Option.some.injEq] at h
      obtain ⟨⟨rfl, rfl⟩, rfl⟩ := h
      exact .count total
    | rate a w n total tally last seen => cases h; exact .rate ..
    | level a r =>
      simp only [TuneParams.kindFor, Option.ite_none_right_eq_some, Option.some.injEq] at h
      obtain ⟨rfl, rfl⟩ := h
      exact .level ..
  · intro h
    cases h <;> simp [TuneParams.kindFor]

/-! ## The state checks, in their order -/

theorem applyDefine_present {x : DefineParams} {s : State} (h : findEntry x.id s.table ≠ none) :
    applyDefine x s = (s, refuse .idInUse [x.id]) := if_pos (Option.isSome_iff_ne_none.mpr h)

theorem applyDefine_absent {x : DefineParams} {s : State} (h : findEntry x.id s.table = none) :
    applyDefine x s =
      if Config.entries ≤ s.table.length then (s, refuse .tableFull [x.id])
      else if s.badWindow x.kind then (s, refuse .badWindow [x.id])
      else ((s.addEntry x.entry).definitionChange.recompute (.define x.id), ⟨.ok, [x.id]⟩) :=
  if_neg (by simp [h])

theorem applyDefine_full {x : DefineParams} {s : State} (h : findEntry x.id s.table = none)
    (hlen : 48 ≤ s.table.length) : applyDefine x s = (s, refuse .tableFull [x.id]) :=
  (applyDefine_absent h).trans (if_pos hlen)

theorem applyDefine_badWindow {x : DefineParams} {s : State} (h : findEntry x.id s.table = none)
    (hlen : s.table.length < 48) (hw : s.badWindow x.kind = true) :
    applyDefine x s = (s, refuse .badWindow [x.id]) :=
  (applyDefine_absent h).trans ((if_neg (Nat.not_le.mpr hlen)).trans (if_pos hw))

theorem applyDefine_ok {x : DefineParams} {s : State} (h : findEntry x.id s.table = none)
    (hlen : s.table.length < 48) (hw : s.badWindow x.kind = false) :
    applyDefine x s = ((s.addEntry x.entry).definitionChange.recompute (.define x.id), ⟨.ok, [x.id]⟩) :=
  (applyDefine_absent h).trans ((if_neg (Nat.not_le.mpr hlen)).trans (if_neg (by simp [hw])))

theorem applyRetire_absent {id : Byte} {s : State} (h : findEntry id s.table = none) :
    applyRetire id s = (s, refuse .noEntry [id]) := by simp only [applyRetire, h]

theorem applyRetire_present {id : Byte} {s : State} (h : findEntry id s.table ≠ none) :
    applyRetire id s =
      ((((s.dropEntry id).unbindAll id).markSettings.definitionChange).recompute (.retire id), ⟨.ok, [id]⟩) := by
  obtain ⟨e, he⟩ := Option.ne_none_iff_exists'.mp h
  simp only [applyRetire, he]

theorem applyClear_absent {id : Byte} {s : State} (h : findEntry id s.table = none) :
    applyClear id s = (s, refuse .noEntry [id]) := by simp only [applyClear, h]

theorem applyClear_present {id : Byte} {s : State} (h : findEntry id s.table ≠ none) :
    applyClear id s = ((s.written id Entry.refresh).recompute (.clear id), ⟨.ok, [id]⟩) := by
  obtain ⟨e, he⟩ := Option.ne_none_iff_exists'.mp h
  simp only [applyClear, he, s.writeEntry_eq_written he]

theorem applyTune_absent {x : TuneParams} {s : State} (h : findEntry x.id s.table = none) :
    applyTune x s = (s, refuse .noEntry [x.id]) := by simp only [applyTune, h]

theorem applyTune_badKind {x : TuneParams} {s : State} {e : Entry} (h : findEntry x.id s.table = some e)
    (hk : x.kindFor e.kind = none) : applyTune x s = (s, refuse .badParam [x.id]) := by simp only [applyTune, h, hk]

theorem applyTune_ok {x : TuneParams} {s : State} {e : Entry} {k : KindPart} (h : findEntry x.id s.table = some e)
    (hk : x.kindFor e.kind = some k) :
    applyTune x s = ((s.written x.id (x.tune k)).definitionChange.recompute (.tune x.id), ⟨.ok, [x.id]⟩) := by
  simp only [applyTune, h, hk, s.writeEntry_eq_written h]

/-- The windows that a DEFINE may not name (R7, R83). -/
theorem State.badWindow_iff (s : State) (k : KindPart) : s.badWindow k = false ↔ s.windowFree k := by
  cases k with
  | count total => simp [State.badWindow, State.windowFree]
  | level a r => simp [State.badWindow, State.windowFree]
  | rate a w n total tally last seen =>
    simp [State.badWindow, State.windowFree, isHigh, State.pairJoined]

/-- A granted structural command on an unfrozen table that its state checks refuse: the slot alone moves. -/
theorem takeCommand_refused {s : State} {p : Port} {code : Byte} {ps : List Byte} {α : Type} {sc : StructuralCode}
    {ident : List Byte → List Byte} {parse : List Byte → Option α} {apply : α → State → State × Answer} {x : α}
    {a : Answer} (h : s.Granted p code ps) (hf : s.frozen = false) (hx : parse ps = some x)
    (ha : apply x (s.grant p) = (s.grant p, a)) :
    s.takeCommand p (· == code) (fun ps t => t.structural p sc ident parse apply ps) = s.answered p a :=
  State.takeCommand_answer (test := fun y => y == code) h (beq_self_eq_true code)
    (((s.grant p).structural_unfrozen p sc ident parse apply hx hf).trans ha)

/-- Settles O22, by the state checks of each command in their order. -/
theorem tableCommandsRefuseInOrder : Obligations.TableCommandsRefuseInOrder := by
  unfold Obligations.TableCommandsRefuseInOrder
  intro s p code ps h hf hb
  refine ⟨?_, ?_, ?_, ?_, ?_, ?_, ?_⟩
  · rintro rfl hid
    obtain ⟨x, hx⟩ := exists_of_isSome (parseDefine_isSome ps) hb
    rw [← parseDefine_id hx] at hid ⊢
    exact congrArg Host.Outcome.next (takeCommand_refused h hf hx (applyDefine_present hid))
  · rintro rfl hid hlen
    obtain ⟨x, hx⟩ := exists_of_isSome (parseDefine_isSome ps) hb
    rw [← parseDefine_id hx] at hid ⊢
    exact congrArg Host.Outcome.next (takeCommand_refused h hf hx (applyDefine_full hid hlen))
  · rintro w rfl hid hlen hkind hw hodd hjoined
    obtain ⟨x, hx⟩ := exists_of_isSome (parseDefine_isSome ps) hb
    obtain ⟨a, n, hk⟩ := parseDefine_rate hx hkind hw
    have hbad : (s.grant p).badWindow x.kind = true := by
      rw [hk]
      simp only [State.badWindow, isHigh, hodd, State.pairJoined, State.grant_joined, hjoined]
      rfl
    rw [← parseDefine_id hx] at hid ⊢
    exact congrArg Host.Outcome.next (takeCommand_refused h hf hx (applyDefine_badWindow hid hlen hbad))
  · rintro rfl hid
    obtain ⟨x, hx⟩ := exists_of_isSome (parseId_isSome ps) hb
    rw [← parseId_some hx] at hid ⊢
    exact congrArg Host.Outcome.next (takeCommand_refused h hf hx (applyRetire_absent hid))
  · rintro rfl hid
    obtain ⟨x, hx⟩ := exists_of_isSome (parseId_isSome ps) hb
    rw [← parseId_some hx] at hid ⊢
    exact congrArg Host.Outcome.next (takeCommand_refused h hf hx (applyClear_absent hid))
  · rintro rfl hid
    obtain ⟨x, hx⟩ := exists_of_isSome (parseTune_isSome ps) hb
    rw [← (parseTune_fields hx).1] at hid ⊢
    exact congrArg Host.Outcome.next (takeCommand_refused h hf hx (applyTune_absent hid))
  · rintro e rfl he hno
    obtain ⟨x, hx⟩ := exists_of_isSome (parseTune_isSome ps) hb
    obtain ⟨hid, hallow, hsettle⟩ := parseTune_fields hx
    have hnone : x.kindFor e.kind = none := by
      refine Option.eq_none_iff_forall_ne_some.mpr (fun k hk => hno k ?_)
      rw [← hallow, ← hsettle]
      exact (x.kindFor_iff _ _).mp hk
    rw [← hid] at he ⊢
    exact congrArg Host.Outcome.next (takeCommand_refused h hf hx (applyTune_badKind he hnone))

/-! ## The applied commands -/

/-- A granted structural command on an unfrozen table that is applied: its effect on the state it finds, and its
answer. -/
theorem takeCommand_applied {s : State} {p : Port} {code : Byte} {ps : List Byte} {α : Type} {sc : StructuralCode}
    {ident : List Byte → List Byte} {parse : List Byte → Option α} {apply : α → State → State × Answer} {x : α}
    {f : State → State} {a : Answer} (h : s.Granted p code ps) (hf : s.frozen = false) (hx : parse ps = some x)
    (hblind : State.Blind f) (ha : apply x (s.grant p) = (f (s.grant p), a)) :
    s.takeCommand p (· == code) (fun ps t => t.structural p sc ident parse apply ps) = (f s).answered p a :=
  State.takeCommand_effect (test := fun y => y == code) h (beq_self_eq_true code) hblind
    (((s.grant p).structural_unfrozen p sc ident parse apply hx hf).trans ha)

/-- The end of a definition command does not look at the slots. -/
theorem State.Blind.redefined {f : State → State} (hf : State.Blind f) (c : Cause) :
    State.Blind (fun s => (f s).definitionChange.recompute c) :=
  (State.blind_recompute c).comp (State.blind_definitionChange.comp hf)

theorem classOf_code {cls : Byte} (h : cls = 1 ∨ cls = 2) :
    classOf cls = some (if cls = 2 then .urgent else .service) := by
  obtain rfl | rfl := h <;> rfl

/-- The kind, allowance, window and settle count that R7 lets pass are read as the kind part they stand for. -/
theorem parseKind_of_definesKind {kind w n : Byte} {a : Word16} {k : KindPart} (h : DefinesKind kind a w n k) :
    parseKind kind a w n = some k ∧ k.fresh = k := by
  cases h with
  | count => exact ⟨rfl, rfl⟩
  | level a => exact ⟨rfl, rfl⟩
  | rate a w n hn =>
    refine ⟨?_, rfl⟩
    have hw : (BitVec.ofNat 8 w.val).toNat = w.val := by
      rw [BitVec.toNat_ofNat]; exact Nat.mod_eq_of_lt (by omega)
    have hn' : (BitVec.ofNat 8 n).toNat = n := by
      rw [BitVec.toNat_ofNat]; exact Nat.mod_eq_of_lt (by omega)
    show (match eight? (BitVec.ofNat 8 w.val).toNat with | some v => _ | none => _) = _
    simp only [hw, hn', eight?, w.isLt, dite_true, if_pos hn]

theorem parseDefine_of_fields {id kind cls set trip s1 s0 a1 a0 w n : Byte} {k : KindPart} (h1 : 1 ≤ id.toNat)
    (h2 : id.toNat ≤ 254) (hcls : cls = 1 ∨ cls = 2) (hset : set.toNat ≤ 7) (htrip : trip.toNat ≤ 250 ∨ trip = 255)
    (hstep : s1 ++ s0 ≠ (0 : Word16)) (hk : DefinesKind kind (a1 ++ a0) w n k) :
    parseDefine [id, kind, cls, set, trip, s1, s0, a1, a0, w, n] =
      some ⟨id, if cls = 2 then .urgent else .service, setOfByte set, trip.toNat, s1 ++ s0, k⟩ := by
  have hranges : idOk id = true ∧ setOk set = true ∧ tripOk trip = true ∧ word16 s1 s0 ≠ 0 :=
    ⟨(idOk_iff id).mpr ⟨h1, h2⟩, decide_eq_true hset,
      (tripOk_iff trip).mpr (htrip.imp_right (congrArg BitVec.toNat)), hstep⟩
  simp only [parseDefine, classOf_code hcls, word16, (parseKind_of_definesKind hk).1]
  exact if_pos hranges

/-- Settles O23, by the effect of DEFINE past its checks. -/
theorem defineCreatesTheEntry : Obligations.DefineCreatesTheEntry := by
  unfold Obligations.DefineCreatesTheEntry
  refine ⟨?_, fun s => ?_, fun sv w gone => ⟨rfl, rfl⟩, fun m gone h => ?_⟩
  · intro s p id kind cls set trip s1 s0 a1 a0 w n k h hf h1 h2 hcls hset htrip hstep hk habsent hlen hfree e made
    obtain ⟨-, hfresh⟩ := parseKind_of_definesKind hk
    have hx := parseDefine_of_fields h1 h2 hcls hset htrip hstep hk
    have hentry : DefineParams.entry
        ⟨id, if cls = 2 then .urgent else .service, setOfByte set, trip.toNat, s1 ++ s0, k⟩ = e := by
      simp only [DefineParams.entry, Entry.refresh, hfresh]
      rfl
    have happly := applyDefine_ok (s := s.grant p)
      (x := ⟨id, if cls = 2 then .urgent else .service, setOfByte set, trip.toNat, s1 ++ s0, k⟩) habsent hlen
      (((s.grant p).badWindow_iff k).mpr hfree)
    rw [hentry] at happly
    exact congrArg Host.Outcome.next (takeCommand_applied h hf hx
      (State.Blind.redefined (f := fun t => t.addEntry e) (fun _ _ _ => rfl) (.define id)) happly)
  · obtain ⟨hm, h⟩ | ⟨hm, h⟩ := s.definitionChange_cases
    · exact ⟨fun _ => h, fun hne => absurd hm hne⟩
    · exact ⟨fun ha => absurd ha hm, fun _ => h⟩
  · cases m with
    | saving sv w => exact absurd rfl (h sv w)
    | loading | idle | auditing | held | faulted => exact ⟨rfl, rfl⟩

/-- Settles O24, by the effect of RETIRE on a present entry. -/
theorem retireRemovesTheEntry : Obligations.RetireRemovesTheEntry := by
  unfold Obligations.RetireRemovesTheEntry
  intro s p id h hf h1 h2 hpresent
  refine ⟨((s.dropEntry id).unbindAll id).markSettings, ?_, rfl, fun i => getElem_vec4 _ i⟩
  exact congrArg Host.Outcome.next (takeCommand_applied h hf (parseId_one h1 h2)
    (State.Blind.redefined (f := fun t => ((t.dropEntry id).unbindAll id).markSettings) (fun _ _ _ => rfl) (.retire id))
    (applyRetire_present hpresent))

/-- The grade a TUNE gives is a matter of the step and the kind part (R14). -/
theorem Entry.tunedGrade_eq (e : Entry) : e.tunedGrade = retunedGrade e.step e.kind := by
  unfold Entry.tunedGrade retunedGrade
  cases e.kind with
  | count total => rfl
  | rate a w n total tally last seen => cases last <;> rfl
  | level a r => cases r <;> rfl

theorem parseTune_of_fields {id cls set trip s1 s0 a1 a0 n : Byte}
    (hb : blockOk 0x12 [id, cls, set, trip, s1, s0, a1, a0, n] = true) :
    parseTune [id, cls, set, trip, s1, s0, a1, a0, n] =
      some ⟨id, if cls = 2 then .urgent else .service, setOfByte set, trip.toNat, s1 ++ s0, a1 ++ a0, n.toNat⟩ := by
  obtain ⟨x, hx⟩ := exists_of_isSome (parseTune_isSome _) hb
  obtain ⟨id', cls', set', trip', s1', s0', a1', a0', n', c, hps, hc, rfl⟩ := parseTune_some hx
  cases hps
  have hcls : cls = 1 ∨ cls = 2 := by
    have hrange := classOf_isSome cls
    rw [hc] at hrange
    obtain ⟨hlo, hhi⟩ := (within_iff _ _ _).mp hrange.symm
    exact (by omega : cls.toNat = 1 ∨ cls.toNat = 2).imp BitVec.eq_of_toNat_eq BitVec.eq_of_toNat_eq
  obtain rfl : _ = c := Option.some.inj ((classOf_code hcls).symm.trans hc)
  exact hx

/-- Settles O25, by the effect of TUNE on an entry whose kind takes its fields. -/
theorem tuneRewritesTheEntry : Obligations.TuneRewritesTheEntry := by
  unfold Obligations.TuneRewritesTheEntry
  intro s p id cls set trip s1 s0 a1 a0 n e k h hf hb he hk tuned
  have hkind : TuneParams.kindFor ⟨id, if cls = 2 then .urgent else .service, setOfByte set, trip.toNat, s1 ++ s0,
      a1 ++ a0, n.toNat⟩ e.kind = some k := (TuneParams.kindFor_iff _ _ _).mpr hk
  have htune : TuneParams.tune ⟨id, if cls = 2 then .urgent else .service, setOfByte set, trip.toNat, s1 ++ s0,
      a1 ++ a0, n.toNat⟩ k = fun x => Entry.regraded
        { x with cls := if cls = 2 then .urgent else .service,
                 reporters := ⟨set.getLsbD 0, set.getLsbD 1, set.getLsbD 2⟩, trip := trip.toNat, step := s1 ++ s0,
                 kind := k } (retunedGrade (s1 ++ s0) k) := by
    funext x
    simp only [TuneParams.tune, Entry.tunedGrade_eq]
    rfl
  have happly := applyTune_ok (s := s.grant p) he hkind
  rw [htune] at happly
  exact congrArg Host.Outcome.next (takeCommand_applied h hf (parseTune_of_fields hb)
    (State.Blind.redefined (State.blind_written id _) (.tune id)) happly)

/-- A refreshed entry is one just defined with its own definition fields (R16). -/
theorem Entry.refresh_eq (e : Entry) : e.refresh = e.justDefined (freshKind e.kind) := by
  have hfresh : e.kind.fresh = freshKind e.kind := by cases e.kind <;> rfl
  simp only [Entry.refresh, hfresh]
  rfl

/-- Settles O26, by the effect of CLEAR on a present entry. -/
theorem clearRefreshesTheEntry : Obligations.ClearRefreshesTheEntry := by
  unfold Obligations.ClearRefreshesTheEntry
  intro s p id h hf h1 h2 hpresent
  rw [← funext Entry.refresh_eq]
  exact congrArg Host.Outcome.next (takeCommand_applied h hf (parseId_one h1 h2)
    ((State.blind_recompute (.clear id)).comp (State.blind_written id Entry.refresh)) (applyClear_present hpresent))

/-! ## Closes and early looks -/

theorem exec_windowClose {s : State} {w : Fin 8} {rest : List WindowRequest} (hr : s.ready = true)
    (hw : (s.windows[w]).waiting = .close :: rest) :
    exec (.windowClose w) s = .next
      (((s.setCounter w { s.windows[w] with waiting := rest, closes := (s.windows[w]).closes + 1 }).writeEntries
        (closeEntry w)).recompute (.close w)) := by
  show execWindowClose w s = _
  simp only [execWindowClose, hw, hr, if_true]

theorem exec_earlyLook {s : State} {w : Fin 8} {rest : List WindowRequest} (hr : s.ready = true)
    (hw : (s.windows[w]).waiting = .early :: rest) :
    exec (.earlyLook w) s = .next
      (((s.setCounter w { s.windows[w] with waiting := rest }).writeEntries (earlyEntry w)).recompute (.early w)) := by
  show execEarlyLook w s = _
  simp only [execEarlyLook, hw, hr, if_true]

/-- The early look of a RATE entry (R27, R72, log entry 31). -/
theorem Entry.lookEarly_rate {e : Entry} {a : Word16} {w : Fin 8} {n : Nat} {total tally : Word32}
    {last : Option Word32} {seen : Nat} (hk : e.kind = .rate a w n total tally last seen) :
    e.lookEarly =
      if n ≤ seen ∧ rateGrade tally a e.step < e.grade ∧ rateGrade tally a e.step ≤ 200 then
        some (e.regraded (rateGrade tally a e.step)) else none := by
  simp only [Entry.lookEarly, hk]
  rfl

/-- Settles O36, by the sample and the early look of a RATE entry. -/
theorem closesAndEarlyLooksGradeTheBoundEntries : Obligations.ClosesAndEarlyLooksGradeTheBoundEntries := by
  unfold Obligations.ClosesAndEarlyLooksGradeTheBoundEntries
  refine ⟨fun s w rest hr hw => exec_windowClose hr hw, fun s w rest hr hw => exec_earlyLook hr hw, ?_, fun s f => rfl⟩
  intro e a w n total tally last seen hk
  rw [Entry.takeSample_rate hk, Entry.lookEarly_rate hk]
  refine ⟨fun h => if_pos h, fun h => if_neg (Nat.not_le.mpr h), fun h1 h2 h3 => if_pos ⟨h1, h2, h3⟩, fun h => ?_⟩
  exact if_neg (by omega)

end Sys2Proof.Machine
end

section
/-! PROOFS. What the entry commands, folds, closes and early looks leave as they find it (O57). -/

namespace Sys2Proof.Machine

/-! ## Writes of entries and the recomputation after them -/

/-- `x` with the table, the verdict and its record, the sweep and the retention state of `u`. -/
def State.withGrades (x u : State) : State :=
  { x with
    table := u.table, verdict := u.verdict, verdictSeq := u.verdictSeq, verdictSince := u.verdictSince,
    notices := u.notices, history := u.history, mode := u.mode, imageInfo := u.imageInfo, audit := u.audit }

/-- Every notice mask of `s` stands in `t`. -/
def State.SameMasks (s t : State) : Prop := ∀ q, (t.notices.get q).mask = (s.notices.get q).mask

/-- `t` is `s` after writes of entries and a recomputation at most: the fields of `withGrades` move, and no
notice mask. -/
structure State.Regrades (s t : State) : Prop where
  frame : t = s.withGrades t
  masks : s.SameMasks t

theorem State.Regrades.refl (s : State) : s.Regrades s := ⟨rfl, fun _ => rfl⟩

/-- The fields of `u` over those of `t` over `s` are those of `u` over `s`. -/
theorem State.withGrades_withGrades (s t u : State) : (s.withGrades t).withGrades u = s.withGrades u := rfl

theorem State.Regrades.trans {s t u : State} (h : s.Regrades t) (h' : t.Regrades u) : s.Regrades u where
  frame :=
    calc u = t.withGrades u := h'.frame
      _ = (s.withGrades t).withGrades u := congrArg (fun x => State.withGrades x u) h.frame
      _ = s.withGrades u := s.withGrades_withGrades t u
  masks q := (h'.masks q).trans (h.masks q)

theorem State.Regrades.proposals {s t : State} (h : s.Regrades t) : t.proposals = s.proposals := by rw [h.frame]; rfl

theorem State.Regrades.closingOrder {s t : State} (h : s.Regrades t) : t.closingOrder = s.closingOrder := by
  rw [h.frame]; rfl

theorem State.Regrades.madeOrder {s t : State} (h : s.Regrades t) : t.madeOrder = s.madeOrder := by rw [h.frame]; rfl

theorem State.Regrades.nextNumber {s t : State} (h : s.Regrades t) : t.nextNumber = s.nextNumber := by rw [h.frame]; rfl

theorem State.Regrades.settingsUnsaved {s t : State} (h : s.Regrades t) : t.settingsUnsaved = s.settingsUnsaved := by
  rw [h.frame]; rfl

theorem State.Regrades.inputs {s t : State} (h : s.Regrades t) : t.inputs = s.inputs := by rw [h.frame]; rfl

theorem State.Regrades.windows {s t : State} (h : s.Regrades t) : t.windows = s.windows := by rw [h.frame]; rfl

@[simp] theorem Notice.mark_mask (n : Notice) (worsening : Bool) : (n.mark worsening).mask = n.mask := by
  unfold Notice.mark
  split <;> rfl

theorem State.regrades_requestSave (s : State) (c : Causes) : s.Regrades (s.requestSave c) := by
  rw [s.requestSave_frame c]; exact ⟨rfl, fun _ => rfl⟩

theorem State.regrades_changeVerdict (s : State) (v : Verdict) (c : Cause) : s.Regrades (s.changeVerdict v c) := by
  refine ⟨rfl, fun q => ?_⟩
  simp only [State.changeVerdict, State.takeRecord, perPort_get_map, Notice.mark_mask]

theorem State.regrades_recompute (s : State) (c : Cause) : s.Regrades (s.recompute c) := by
  obtain ⟨-, h⟩ | ⟨-, -, h⟩ | ⟨-, -, h⟩ := s.recompute_cases c <;> rw [h]
  · exact .refl s
  · exact s.regrades_changeVerdict _ _
  · exact (s.regrades_changeVerdict _ _).trans (State.regrades_requestSave _ _)

theorem State.regrades_definitionChange (s : State) : s.Regrades s.definitionChange := by
  obtain ⟨-, h⟩ | ⟨-, h⟩ := s.definitionChange_cases <;> rw [h]
  · exact ⟨rfl, fun _ => rfl⟩
  · exact .refl s

theorem State.regrades_writeEntries (s : State) (f : Entry → Option Entry) : s.Regrades (s.writeEntries f) :=
  ⟨rfl, fun _ => rfl⟩

theorem State.regrades_foldEntry (s : State) (id : Byte) : s.Regrades (s.foldEntry id) := ⟨rfl, fun _ => rfl⟩

theorem regrades_applyItems (items : List (Byte × Word16)) (s : State) : s.Regrades (applyItems s items) := by
  induction items generalizing s with
  | nil => exact .refl s
  | cons item items ih => exact (s.regrades_writeEntries _).trans (ih _)

/-! ## The five entry commands -/

/-- `x` with every field that an entry command may move taken from `u`. -/
def State.withEntryFields (x u : State) : State :=
  { x.withGrades u with
    ports := u.ports, lastGranted := u.lastGranted, proposals := u.proposals, closingOrder := u.closingOrder,
    madeOrder := u.madeOrder, nextNumber := u.nextNumber, settingsUnsaved := u.settingsUnsaved, inputs := u.inputs }

/-- What an entry command `c` of port `p` leaves, but for the slots. -/
structure EntryOutcome (c : Instr) (p : Port) (s t : State) : Prop where
  frame : t = s.withEntryFields t
  masks : s.SameMasks t
  frozen : s.frozen = true → c ≠ .report p → t.table = s.table ∧ t.verdict = s.verdict ∧ t.mode = s.mode
  proposals : s.frozen = false ∨ c = .report p → t.proposals = s.proposals ∧ t.closingOrder = s.closingOrder ∧
    t.madeOrder = s.madeOrder ∧ t.nextNumber = s.nextNumber
  settings : c ≠ .retire p → t.settingsUnsaved = s.settingsUnsaved ∧ t.inputs = s.inputs
  inputs : ∀ i : Fin 4, t.inputs[i] = { s.inputs[i] with binding := (t.inputs[i]).binding }

theorem EntryOutcome.refl (c : Instr) (p : Port) (s : State) : EntryOutcome c p s s :=
  ⟨rfl, fun _ => rfl, fun _ _ => ⟨rfl, rfl, rfl⟩, fun _ => ⟨rfl, rfl, rfl, rfl⟩, fun _ => ⟨rfl, rfl⟩, fun _ => rfl⟩

/-- Entries are written where the table is not frozen, or by a REPORT. -/
theorem EntryOutcome.of_regrades {c : Instr} {p : Port} {s t : State} (hc : s.frozen = false ∨ c = .report p)
    (h : s.Regrades t) : EntryOutcome c p s t where
  frame := h.frame.trans (congrArg s.withEntryFields h.frame).symm
  masks := h.masks
  frozen hf hne := by
    obtain hf' | hr := hc
    · rw [hf] at hf'; cases hf'
    · exact absurd hr hne
  proposals _ := ⟨h.proposals, h.closingOrder, h.madeOrder, h.nextNumber⟩
  settings _ := ⟨h.settingsUnsaved, h.inputs⟩
  inputs i := by rw [h.inputs]

/-- A RETIRE unbinds inputs and sets the settings mark as well. -/
theorem EntryOutcome.of_retired {p : Port} {s t : State} {id : Byte} (hf : s.frozen = false)
    (h : (((s.dropEntry id).unbindAll id).markSettings).Regrades t) : EntryOutcome (.retire p) p s t where
  frame := h.frame.trans (congrArg s.withEntryFields h.frame).symm
  masks := h.masks
  frozen hf' := by rw [hf] at hf'; cases hf'
  proposals _ := ⟨h.proposals, h.closingOrder, h.madeOrder, h.nextNumber⟩
  settings hne := absurd rfl hne
  inputs i := by
    have hinputs : t.inputs[i] =
        if (s.inputs[i]).binding = some id then { s.inputs[i] with binding := none } else s.inputs[i] := by
      rw [h.inputs]
      exact getElem_vec4 _ i
    rw [hinputs]
    split <;> rfl

/-- On a frozen table a structural command moves the proposals alone. -/
theorem EntryOutcome.of_proposal {c : Instr} {p : Port} {s : State} (hf : s.frozen = true) (hc : c ≠ .report p)
    (code : StructuralCode) (ps : List Byte) : EntryOutcome c p s (s.makeProposal p code ps).1 := by
  unfold State.makeProposal
  split
  · exact .refl c p s
  · refine ⟨rfl, fun _ => rfl, fun _ _ => ⟨rfl, rfl, rfl⟩, fun h => ?_, fun _ => ⟨rfl, rfl⟩, fun _ => rfl⟩
    obtain hf' | hr := h
    · rw [hf] at hf'; cases hf'
    · exact absurd hr hc

/-- The grant before a request and the answer after it move slots and the arbiter alone. -/
theorem EntryOutcome.granted {c : Instr} {p : Port} {s u : State} (h : EntryOutcome c p (s.grant p) u) (a : Answer) :
    EntryOutcome c p s (u.placeAnswer p a) := by
  have hframe : ∀ x, { u with ports := x } = s.withEntryFields { u with ports := x } := fun x =>
    congrArg (fun y : State => { y with ports := x }) h.frame
  rw [State.placeAnswer_ports]
  exact ⟨hframe _, h.masks, h.frozen, h.proposals, h.settings, h.inputs⟩

theorem entryOutcome_structural {α : Type} {c : Instr} {p : Port} {s : State} {code : StructuralCode}
    {ident : List Byte → List Byte} {parse : List Byte → Option α} {apply : α → State → State × Answer}
    (ps : List Byte) (hc : c ≠ .report p) (h : ∀ x, s.frozen = false → EntryOutcome c p s (apply x s).1) :
    EntryOutcome c p s (s.structural p code ident parse apply ps).1 := by
  unfold State.structural
  split
  · exact .refl c p s
  · split
    · next hf => exact .of_proposal hf hc code ps
    · next hf => exact h _ (Bool.eq_false_iff.mpr hf)

theorem regrades_applyDefine (x : DefineParams) (s : State) : s.Regrades (applyDefine x s).1 := by
  have hadd : s.Regrades (s.addEntry x.entry) := ⟨rfl, fun _ => rfl⟩
  unfold applyDefine
  split
  · exact .refl s
  · split
    · exact .refl s
    · split
      · exact .refl s
      · exact (hadd.trans (State.regrades_definitionChange _)).trans (State.regrades_recompute _ _)

theorem regrades_applyTune (x : TuneParams) (s : State) : s.Regrades (applyTune x s).1 := by
  unfold applyTune
  split
  · exact .refl s
  · split
    · exact .refl s
    · exact ((s.regrades_writeEntries _).trans (State.regrades_definitionChange _)).trans (State.regrades_recompute _ _)

theorem regrades_applyClear (id : Byte) (s : State) : s.Regrades (applyClear id s).1 := by
  unfold applyClear
  split
  · exact .refl s
  · exact (s.regrades_writeEntries _).trans (State.regrades_recompute _ _)

theorem regrades_applyReport (p : Port) (items : List (Byte × Word16)) (s : State) :
    s.Regrades (applyReport p items s).1 := by
  unfold applyReport
  split
  · exact .refl s
  · exact (regrades_applyItems items s).trans (State.regrades_recompute _ _)

theorem entryOutcome_applyRetire {p : Port} (id : Byte) {s : State} (hf : s.frozen = false) :
    EntryOutcome (.retire p) p s (applyRetire id s).1 := by
  unfold applyRetire
  split
  · exact .refl _ p s
  · exact .of_retired hf ((State.regrades_definitionChange _).trans (State.regrades_recompute _ _))

/-- The request of each entry command. -/
theorem entryOutcome_commandRequest {c : Instr} {p : Port}
    (hc : c ∈ [Instr.define p, .retire p, .tune p, .clear p, .report p]) (ps : List Byte) (s : State) :
    EntryOutcome c p s (commandRequest c ps s).1 := by
  simp only [List.mem_cons, List.not_mem_nil, or_false] at hc
  obtain rfl | rfl | rfl | rfl | rfl := hc
  · exact entryOutcome_structural ps (by simp) (fun x hf => .of_regrades (.inl hf) (regrades_applyDefine x s))
  · exact entryOutcome_structural ps (by simp) (fun id hf => entryOutcome_applyRetire id hf)
  · exact entryOutcome_structural ps (by simp) (fun x hf => .of_regrades (.inl hf) (regrades_applyTune x s))
  · exact entryOutcome_structural ps (by simp) (fun id hf => .of_regrades (.inl hf) (regrades_applyClear id s))
  · show EntryOutcome _ p s (requestReport p ps s).1
    unfold requestReport State.direct
    split
    · exact .refl _ p s
    · exact .of_regrades (.inr rfl) (regrades_applyReport p _ s)

/-- The answer of a request that left the slots of its grant is placed in its port's slot. -/
theorem State.placeAnswer_after_grant {s u : State} {p : Port} (h : (s.grant p).OffSlots u) (a : Answer) :
    (u.placeAnswer p a).ports = (s.answered p a).ports := by
  have hslot : u.slot p = (s.grant p).slot p := congrArg (fun x : PerPort PortUnit => (x.get p).slot) h.ports
  rw [← s.placeAnswer_grant p a]
  simp only [State.placeAnswer, hslot, s.slot_grant p, if_true, State.setSlot_ports, h.ports]

/-- An answer moves the state and the response of its port's slot alone. -/
theorem onlySlotState_of_answered {s t : State} {p : Port} {a : Answer} (h : t.ports = (s.answered p a).ports) :
    onlySlotState p s t := by
  have hget : ∀ q, t.ports.get q =
      if q = p then { s.ports.get p with slot := (s.slot p).answered a } else s.ports.get q := fun q => by
    rw [h, State.answered_ports, perPort_get_set]
  have hslot : t.slot p = (s.slot p).answered a := by rw [State.slot, hget p, if_pos rfl]
  refine ⟨fun q hq => by rw [hget, if_neg hq], ?_⟩
  rw [hget, if_pos rfl, hslot]
  rfl

/-- A command whose request leaves the slots moves the state and the response of its own port's slot at most. -/
theorem onlySlotState_takeCommand {s : State} {p : Port} {test : Byte → Bool}
    {request : List Byte → State → State × Answer} (h : ∀ ps t, State.OffSlots t (request ps t).1) :
    onlySlotState p s (s.takeCommand p test request) := by
  unfold State.takeCommand
  split
  · exact onlySlotState_of_answered (State.placeAnswer_after_grant (h _ _) _)
  · exact ⟨fun _ _ => rfl, rfl⟩

/-- An entry command, taken or not: what it leaves, and its port's slot. -/
theorem entryOutcome_exec {c : Instr} {p : Port} {s t : State}
    (hc : c ∈ [Instr.define p, .retire p, .tune p, .clear p, .report p]) (h : exec c s = .next t) :
    EntryOutcome c p s t ∧ onlySlotState p s t := by
  have hcode : ∃ code, portAndCode c = some (p, code) ∧ code ≠ 0x60 := by
    simp only [List.mem_cons, List.not_mem_nil, or_false] at hc
    obtain rfl | rfl | rfl | rfl | rfl := hc <;> exact ⟨_, rfl, by decide⟩
  obtain ⟨code, hpc, hne⟩ := hcode
  rw [exec_command hpc hne] at h
  cases h
  refine ⟨?_, onlySlotState_takeCommand (offSlots_commandRequest c)⟩
  unfold State.takeCommand
  split
  · exact (entryOutcome_commandRequest hc _ _).granted _
  · exact .refl c p s

/-! ## Folds, closes and early looks -/

/-- `x` with every field that a fold, a close or an early look may move taken from `u`. -/
def State.withEventFields (x u : State) : State := { x.withGrades u with inputs := u.inputs, windows := u.windows }

/-- What a fold, a close or an early look leaves. -/
structure EventOutcome (s t : State) : Prop where
  frame : t = s.withEventFields t
  masks : s.SameMasks t
  inputs : ∀ j : Fin 4, t.inputs[j] =
    { s.inputs[j] with folds := (t.inputs[j]).folds, unbound := (t.inputs[j]).unbound }
  windows : ∀ v : Fin 8, t.windows[v] =
    { s.windows[v] with waiting := (t.windows[v]).waiting, closes := (t.windows[v]).closes }

theorem EventOutcome.refl (s : State) : EventOutcome s s := ⟨rfl, fun _ => rfl, fun _ => rfl, fun _ => rfl⟩

theorem EventOutcome.regrades {s t u : State} (h : EventOutcome s t) (h' : t.Regrades u) : EventOutcome s u where
  frame := by
    have hover : u = (s.withEventFields t).withGrades u :=
      h'.frame.trans (congrArg (fun x => State.withGrades x u) h.frame)
    rw [State.withEventFields, h'.inputs, h'.windows]
    exact hover
  masks q := (h'.masks q).trans (h.masks q)
  inputs := by rw [h'.inputs]; exact h.inputs
  windows := by rw [h'.windows]; exact h.windows

/-- An input whose folds and unbound count alone are written. -/
theorem EventOutcome.of_setInput (s : State) (i : Fin 4) (folds : Nat) (unbound : Word32) :
    EventOutcome s (s.setInput i { s.inputs[i] with folds := folds, unbound := unbound }) := by
  refine ⟨rfl, fun _ => rfl, fun j => ?_, fun _ => rfl⟩
  rw [State.setInput_inputs, vector_getElem_set]
  split
  · next hj => rw [hj]
  · rfl

/-- A counter whose waiting requests and closes alone are written. -/
theorem EventOutcome.of_setCounter (s : State) (w : Fin 8) (waiting : List WindowRequest) (closes : Word32) :
    EventOutcome s (s.setCounter w { s.windows[w] with waiting := waiting, closes := closes }) := by
  refine ⟨rfl, fun _ => rfl, fun _ => rfl, fun v => ?_⟩
  rw [State.setCounter_windows, vector_getElem_set]
  split
  · next hv => rw [hv]
  · rfl

theorem eventOutcome_execPulseFold {i : Fin 4} {s t : State} (h : execPulseFold i s = .next t) : EventOutcome s t := by
  cases h
  split
  · dsimp only
    split
    · split
      · refine EventOutcome.regrades ?_ ((State.regrades_foldEntry _ _).trans (State.regrades_recompute _ _))
        exact .of_setInput s i _ _
      · exact .of_setInput s i _ _
    · exact .of_setInput s i _ _
  · exact .refl s

theorem eventOutcome_execWindowClose {w : Fin 8} {s t : State} (h : execWindowClose w s = .next t) :
    EventOutcome s t := by
  cases h
  split
  · split
    · refine EventOutcome.regrades ?_ ((State.regrades_writeEntries _ _).trans (State.regrades_recompute _ _))
      exact .of_setCounter s w _ _
    · exact .refl s
  all_goals exact .refl s

theorem eventOutcome_execEarlyLook {w : Fin 8} {s t : State} (h : execEarlyLook w s = .next t) :
    EventOutcome s t := by
  cases h
  split
  · split
    · refine EventOutcome.regrades ?_ ((State.regrades_writeEntries _ _).trans (State.regrades_recompute _ _))
      exact .of_setCounter s w _ _
    · exact .refl s
  all_goals exact .refl s

/-- Settles O57, by the fields that the parts of each command move. -/
theorem entryCommandsLeaveTheRest : Obligations.EntryCommandsLeaveTheRest := by
  unfold Obligations.EntryCommandsLeaveTheRest
  intro c p s t h
  refine ⟨fun hc => ?_, fun i w hc => ?_⟩
  · obtain ⟨ho, hslot⟩ := entryOutcome_exec hc h
    exact ⟨ho.frame, hslot, ho.masks, ho.frozen, ho.proposals, ho.settings, ho.inputs⟩
  · have ho : EventOutcome s t := by
      simp only [List.mem_cons, List.not_mem_nil, or_false] at hc
      obtain rfl | rfl | rfl := hc
      · exact eventOutcome_execPulseFold h
      · exact eventOutcome_execWindowClose h
      · exact eventOutcome_execEarlyLook h
    exact ⟨ho.frame, ho.masks, ho.inputs, ho.windows⟩

end Sys2Proof.Machine
end

section
/-! PROOFS. Grades, trips and the verdict of a table (O29); the values at reset (O3); the recomputation (O30). -/

namespace Sys2Proof.Machine

/-- Settles O3, by evaluating each part of the reset state. -/
theorem resetStateHoldsTheStatedValues : Obligations.ResetStateHoldsTheStatedValues := by
  unfold Obligations.ResetStateHoldsTheStatedValues
  have hports : ∀ p : Port, State.reset.slot p = ⟨.empty, 0, 0, [], none⟩ ∧
      (State.reset.ports.get p).frameResult = .none ∧ State.reset.notices.get p = ⟨.worsen, .clear⟩ ∧
      State.reset.alertLow p = false := fun p => by cases p <;> exact ⟨rfl, rfl, rfl, rfl⟩
  exact ⟨hports, rfl, rfl, rfl, rfl, rfl, rfl, rfl, by decide, rfl, rfl, rfl, by decide, by decide⟩

/-! ## The grade formulas in whole numbers (R23 to R25, R28) -/

/-- A grade that falls from 200 and stops at 1, as a whole number. -/
theorem fallingGrade_cast (n : Nat) : ((max 1 (200 - n) : Nat) : Int) = max 1 (200 - (n : Int)) := by omega

theorem countGrade_cast (total : Word32) (step : Word16) :
    ((countGrade total step : Nat) : Int) = max 1 (200 - (total.toNat : Int) / step.toNat) := by
  rw [countGrade, fallingGrade_cast, Int.natCast_ediv]

theorem rateGrade_cast (sample : Word32) (allowance step : Word16) :
    ((rateGrade sample allowance step : Nat) : Int) =
      if (sample.toNat : Int) ≤ allowance.toNat then min 250 (200 + ((allowance.toNat : Int) - sample.toNat))
      else max 1 (200 - ((sample.toNat : Int) - allowance.toNat) / step.toNat) := by
  unfold rateGrade
  simp only [Nat.cast_le]
  split
  · omega
  · rw [fallingGrade_cast, Int.natCast_ediv, Int.ofNat_sub (by omega)]

theorem levelGrade_cast (reading allowance step : Word16) :
    ((levelGrade reading allowance step : Nat) : Int) =
      if reading.toInt ≤ allowance.toInt then 200
      else max 1 (200 - (reading.toInt - allowance.toInt) / step.toNat) := by
  unfold levelGrade
  split
  · rfl
  · rw [fallingGrade_cast, Int.natCast_ediv, Int.toNat_of_nonneg (by omega)]

/-! ## The tripped condition and the verdict (R31, R34) -/

theorem Entry.tripped_iff (e : Entry) :
    e.tripped = true ↔ e.trip = 255 ∨ (1 ≤ e.trip ∧ e.trip ≤ 250 ∧ e.grade ≤ e.trip) := by
  simp [Entry.tripped, trippedAt, and_assoc]

theorem deriveVerdict_urgent (t : List Entry) :
    deriveVerdict t = .urgent ↔ ∃ e ∈ t, e.tripped = true ∧ e.cls = .urgent := by
  unfold deriveVerdict
  split
  · next h => simpa using h
  · next h => split <;> simpa using h

theorem deriveVerdict_nominal (t : List Entry) : deriveVerdict t = .nominal ↔ ∀ e ∈ t, e.tripped = false := by
  unfold deriveVerdict
  split
  · next h =>
    obtain ⟨e, he, htrip, -⟩ := by simpa using h
    simpa using ⟨e, he, htrip⟩
  · split
    · next h => simpa using h
    · next h => simpa using h

/-- SERVICE is what is neither URGENT nor NOMINAL. -/
theorem deriveVerdict_service (t : List Entry) :
    deriveVerdict t = .service ↔ (∃ e ∈ t, e.tripped = true) ∧ ∀ e ∈ t, e.tripped = true → e.cls ≠ .urgent := by
  have hurgent := deriveVerdict_urgent t
  have hnominal := deriveVerdict_nominal t
  cases hv : deriveVerdict t <;> simp_all

/-- Settles O29, formula by formula. -/
theorem gradesTripsAndVerdictFollowTheirRules : Obligations.GradesTripsAndVerdictFollowTheirRules := by
  unfold Obligations.GradesTripsAndVerdictFollowTheirRules
  exact ⟨fun x r a step _ => ⟨countGrade_cast x step, rateGrade_cast x a step, levelGrade_cast r a step⟩,
    Entry.tripped_iff, fun t => ⟨deriveVerdict_urgent t, deriveVerdict_service t, deriveVerdict_nominal t⟩⟩

/-! ## The recomputation (R35 to R39) -/

/-- A change is a worsening where it leaves NOMINAL, or goes from SERVICE to URGENT (R34). -/
theorem worsens_iff (old new : Verdict) :
    worsens old new = true ↔ (old = .nominal ∧ new ≠ .nominal) ∨ (old = .service ∧ new = .urgent) := by
  cases old <;> cases new <;> decide

/-- A notice after a change, by its mask (R86). -/
theorem Notice.mark_eq (n : Notice) {worsening : Bool} {worse : Prop} [Decidable worse]
    (h : worsening = true ↔ worse) :
    n.mark worsening =
      ⟨n.mask, if n.mask = .any ∨ (n.mask = .worsen ∧ worse) then .pending else n.state⟩ := by
  obtain ⟨mask, state⟩ := n
  cases mask with
  | none => simp [Notice.mark, NoticeMask.takes]
  | worsen => by_cases hw : worse <;> simp [Notice.mark, NoticeMask.takes, h, hw]
  | any => simp [Notice.mark, NoticeMask.takes]

/-- Settles O30, by the three things a recomputation can do. -/
theorem recomputationMakesOneChangeAtMost : Obligations.RecomputationMakesOneChangeAtMost := by
  unfold Obligations.RecomputationMakesOneChangeAtMost
  intro s cause v worse changed
  have hworse : worsens s.verdict v = true ↔ worse := worsens_iff _ _
  have hchanged : s.changeVerdict v cause = changed := by
    simp only [State.changeVerdict, State.takeRecord, changed, Notice.mark_eq _ hworse]
    rfl
  have hne : worse → v ≠ s.verdict := by
    rintro (⟨hold, hnew⟩ | ⟨hold, hnew⟩) <;> simp_all
  obtain ⟨hsame, h⟩ | ⟨hdiff, hno, h⟩ | ⟨hdiff, hsave, h⟩ := s.recompute_cases cause
  · exact ⟨fun _ => h, fun hd => absurd hsame hd, fun hw => absurd hsame (hne hw)⟩
  · refine ⟨fun hs => absurd hs hdiff, fun _ _ => h.trans hchanged, fun hw ha => ?_⟩
    rw [show worsens s.verdict (deriveVerdict s.table) = true from hworse.mpr hw, ha] at hno
    cases hno
  · obtain ⟨hw, ha⟩ := Bool.and_eq_true_iff.mp hsave
    exact ⟨fun hs => absurd hs hdiff, fun _ hn => absurd ⟨hworse.mp hw, ha⟩ hn,
      fun _ _ => h.trans (congrArg (State.requestSave · .ofWorsen) hchanged)⟩

end Sys2Proof.Machine
end

section
/-! PROOFS. The verdict and its ring through every step: most operations leave both and the tripped condition of the
table, a write of entries is followed by the one recomputation, and a load ends with its own (O7). -/

namespace Sys2Proof.Machine

/-! ## Chains of changes (R37, R38, R93) -/

theorem chained_cons (r : HistoryRecord) (l : List HistoryRecord) :
    chained (r :: l) ↔
      r.old ≠ r.new ∧ (∀ x, l.head? = some x → r.sequence = x.sequence + 1 ∧ r.old = x.new) ∧ chained l := by
  cases l with
  | nil => simp [chained]
  | cons x l => simp [chained, and_assoc]

/-- The newer end of a chain is a chain. -/
theorem chained_take (n : Nat) {l : List HistoryRecord} (h : chained l) : chained (l.take n) := by
  induction l generalizing n with
  | nil => rwa [List.take_nil]
  | cons r l ih =>
    cases n with
    | zero => exact trivial
    | succ n =>
      obtain ⟨hchange, hlink, hrest⟩ := (chained_cons r l).mp h
      refine (chained_cons r _).mpr ⟨hchange, fun x hx => hlink x ?_, ih n hrest⟩
      rw [List.head?_take] at hx
      split at hx
      · cases hx
      · exact hx

/-- The ring on its own: at most twelve records, the newest one telling the verdict, a chain (R93). -/
structure State.RingOk (s : State) : Prop where
  length : s.history.length ≤ Config.historyRecords
  newest : s.newestTells
  chain : chained s.history

theorem State.newestTells_head {s : State} (h : s.newestTells) {r : HistoryRecord} (hr : s.history.head? = some r) :
    s.verdict = r.new ∧ s.verdictSeq = r.sequence := by
  unfold State.newestTells at h
  split at h
  · next hnil => rw [hnil] at hr; cases hr
  · next hcons =>
    rw [hcons] at hr
    cases hr
    exact ⟨h.1, h.2.1⟩

/-- A change of the verdict puts its record in front of the chain (R37, R38). -/
theorem State.RingOk.changeVerdict {s : State} (h : s.RingOk) {v : Verdict} (hv : v ≠ s.verdict) (c : Cause) :
    (s.changeVerdict v c).RingOk where
  length := List.length_take_le _ _
  newest := ⟨rfl, rfl, rfl⟩
  chain := by
    refine chained_take _ ((chained_cons _ _).mpr ⟨Ne.symm hv, fun r hr => ?_, h.chain⟩)
    obtain ⟨hnew, hseq⟩ := State.newestTells_head h.newest hr
    exact ⟨congrArg (· + 1) hseq, hnew⟩

/-! ## A part whose load has built the table -/

/-- The table is built, the verdict is the one it gives, and the ring is in order. -/
structure State.Settled (s : State) : Prop where
  built : ¬ s.unbuilt
  verdict : s.verdict = deriveVerdict s.table
  ring : s.RingOk

/-- The verdict invariant is one thing before the load has built the table and another after it. -/
theorem State.verdictInv_iff (s : State) :
    s.VerdictInv ↔ (s.unbuilt ∧ s.verdict = .nominal ∧ s.history = [] ∧ s.RingOk) ∨ s.Settled := by
  constructor
  · rintro ⟨hunbuilt, hbuilt, hlen, hnewest, hchain⟩
    by_cases h : s.unbuilt
    · exact .inl ⟨h, (hunbuilt h).1, (hunbuilt h).2, hlen, hnewest, hchain⟩
    · exact .inr ⟨h, hbuilt h, hlen, hnewest, hchain⟩
  · rintro (⟨h, hverdict, hempty, hlen, hnewest, hchain⟩ | ⟨h, hverdict, hlen, hnewest, hchain⟩)
    · exact ⟨fun _ => ⟨hverdict, hempty⟩, fun hb => absurd h hb, hlen, hnewest, hchain⟩
    · exact ⟨fun hu => absurd hu h, fun _ => hverdict, hlen, hnewest, hchain⟩

theorem State.Settled.verdictInv {s : State} (h : s.Settled) : s.VerdictInv := s.verdictInv_iff.mpr (.inr h)

/-- A part that is READY has built its table. -/
theorem State.VerdictInv.settled {s : State} (h : s.VerdictInv) (hr : s.ready = true) : s.Settled := by
  refine (s.verdictInv_iff.mp h).resolve_left (fun hu => ?_)
  obtain ⟨⟨hloading, -⟩, -⟩ := hu
  simp [State.ready, hloading] at hr

/-! ## What leaves the verdict and the ring -/

/-- `t` holds the verdict and the ring of `s`, on the same side of the load. -/
structure State.SameRing (s t : State) : Prop where
  loading : t.mode = .loading ↔ s.mode = .loading
  loadBuilt : t.loadBuilt = s.loadBuilt
  verdict : t.verdict = s.verdict
  verdictSeq : t.verdictSeq = s.verdictSeq
  verdictSince : t.verdictSince = s.verdictSince
  history : t.history = s.history

theorem State.SameRing.refl (s : State) : s.SameRing s := ⟨Iff.rfl, rfl, rfl, rfl, rfl, rfl⟩

theorem State.SameRing.trans {s t u : State} (h : s.SameRing t) (h' : t.SameRing u) : s.SameRing u :=
  ⟨h'.loading.trans h.loading, h'.loadBuilt.trans h.loadBuilt, h'.verdict.trans h.verdict,
    h'.verdictSeq.trans h.verdictSeq, h'.verdictSince.trans h.verdictSince, h'.history.trans h.history⟩

theorem State.SameRing.unbuilt {s t : State} (h : s.SameRing t) : t.unbuilt ↔ s.unbuilt := by
  rw [State.unbuilt, State.unbuilt, h.loading, h.loadBuilt]

theorem State.SameRing.ringOk {s t : State} (h : s.SameRing t) (hs : s.RingOk) : t.RingOk where
  length := h.history ▸ hs.length
  newest := by
    rw [State.newestTells, h.history, h.verdict, h.verdictSeq, h.verdictSince]
    exact hs.newest
  chain := h.history ▸ hs.chain

/-- The verdict and the ring stay, and so does the verdict that the table gives. -/
structure State.Steady (s t : State) : Prop where
  ring : s.SameRing t
  derived : deriveVerdict t.table = deriveVerdict s.table

theorem State.Steady.refl (s : State) : s.Steady s := ⟨.refl s, rfl⟩

theorem State.Steady.trans {s t u : State} (h : s.Steady t) (h' : t.Steady u) : s.Steady u :=
  ⟨h.ring.trans h'.ring, h'.derived.trans h.derived⟩

theorem State.Steady.verdictInv {s t : State} (h : s.Steady t) (hs : s.VerdictInv) : t.VerdictInv := by
  refine t.verdictInv_iff.mpr ((s.verdictInv_iff.mp hs).imp ?_ ?_)
  · rintro ⟨hu, hverdict, hempty, hring⟩
    exact ⟨h.ring.unbuilt.mpr hu, h.ring.verdict.trans hverdict, h.ring.history.trans hempty, h.ring.ringOk hring⟩
  · rintro ⟨hb, hverdict, hring⟩
    exact ⟨fun hu => hb (h.ring.unbuilt.mp hu), by rw [h.ring.verdict, h.derived, hverdict], h.ring.ringOk hring⟩

theorem State.Settled.steady {s t : State} (hs : s.Settled) (h : s.Steady t) : t.Settled :=
  ((t.verdictInv_iff.mp (h.verdictInv hs.verdictInv))).resolve_left (fun hu => hs.built (h.ring.unbuilt.mp hu.1))

/-- A step that is taken or not. -/
theorem State.steady_ite {s t : State} {c : Prop} [Decidable c] (h : s.Steady t) : s.Steady (if c then t else s) := by
  split
  · exact h
  · exact .refl s

/-- Equal fields leave the verdict. -/
theorem State.Steady.of_eq {s t : State} (htable : t.table = s.table) (hmode : t.mode = s.mode)
    (hbuilt : t.loadBuilt = s.loadBuilt) (hverdict : t.verdict = s.verdict) (hseq : t.verdictSeq = s.verdictSeq)
    (hsince : t.verdictSince = s.verdictSince) (hhistory : t.history = s.history) : s.Steady t :=
  ⟨⟨by rw [hmode], hbuilt, hverdict, hseq, hsince, hhistory⟩, by rw [htable]⟩

/-! ## The retention unit -/

/-- A change of the retention state that neither begins nor ends a load. -/
theorem State.steady_mode {s : State} {m : RetentionMode} (h : m = .loading ↔ s.mode = .loading) :
    s.Steady { s with mode := m } := ⟨⟨h, rfl, rfl, rfl, rfl, rfl⟩, rfl⟩

theorem RetentionMode.withdrawIds_loading (m : RetentionMode) (gone : Byte → Bool) :
    m.withdrawIds gone = .loading ↔ m = .loading := by cases m <;> simp [RetentionMode.withdrawIds]

theorem RetentionMode.withdrawSettings_loading (m : RetentionMode) :
    m.withdrawSettings = .loading ↔ m = .loading := by cases m <;> simp [RetentionMode.withdrawSettings]

theorem RetentionMode.removePort_loading (m : RetentionMode) (p : Port) :
    m.removePort p = .loading ↔ m = .loading := by cases m <;> simp [RetentionMode.removePort]

theorem State.steady_startSave {s : State} (h : s.mode ≠ .loading) (requesters : PortSet) (causes : Causes) :
    s.Steady (s.startSave requesters causes) :=
  ⟨⟨iff_of_false (fun h => nomatch h) h, rfl, rfl, rfl, rfl, rfl⟩, rfl⟩

theorem State.steady_abortAudit {s : State} (h : s.mode = .auditing) (status : AuditStatus) :
    s.Steady (s.abortAudit status) :=
  ⟨⟨iff_of_false (fun h => nomatch h) (by simp [h]), rfl, rfl, rfl, rfl, rfl⟩, rfl⟩

/-- A sweep gives way to a save. -/
theorem State.steady_abortAudit_startSave {s : State} (h : s.mode = .auditing) (status : AuditStatus)
    (requesters : PortSet) (causes : Causes) : s.Steady ((s.abortAudit status).startSave requesters causes) :=
  (State.steady_abortAudit h status).trans
    (State.steady_startSave (s := s.abortAudit status) (fun h => nomatch h) requesters causes)

/-- A request joins the pending save of the save in flight. -/
theorem State.steady_joinPending {s : State} {sv : Save} {w : Option PendingSave} (h : s.mode = .saving sv w)
    (x : Option PendingSave) : s.Steady { s with mode := .saving sv x } :=
  State.steady_mode (by rw [h]; simp)

theorem State.steady_requestSave (s : State) (c : Causes) : s.Steady (s.requestSave c) := by
  obtain h | ⟨hm, h⟩ | ⟨hm, h⟩ | ⟨sv, w, hm, h⟩ := s.requestSave_cases c <;> rw [h]
  · exact .refl s
  · exact State.steady_startSave (by simp [hm]) _ _
  · exact State.steady_abortAudit_startSave hm _ _ _
  · exact State.steady_joinPending hm _

theorem State.steady_definitionChange (s : State) : s.Steady s.definitionChange := by
  obtain ⟨hm, h⟩ | ⟨-, h⟩ := s.definitionChange_cases <;> rw [h]
  · exact State.steady_abortAudit hm _
  · exact .refl s

theorem State.steady_placeAnswer (s : State) (p : Port) (a : Answer) : s.Steady (s.placeAnswer p a) := by
  rw [s.placeAnswer_ports p a]; exact .of_eq rfl rfl rfl rfl rfl rfl rfl

theorem State.steady_placeAnswers (s : State) (who : PortSet) (a : Answer) : s.Steady (s.placeAnswers who a) := by
  rw [s.placeAnswers_ports who a]; exact .of_eq rfl rfl rfl rfl rfl rfl rfl

theorem State.steady_requestPortSave (s : State) (p : Port) : s.Steady (s.requestPortSave p) := by
  unfold State.requestPortSave
  split
  · exact s.steady_placeAnswer _ _
  · next hm =>
    split
    · exact s.steady_placeAnswer _ _
    · exact State.steady_startSave (by simp [hm]) _ _
  · next hm =>
    split
    · exact s.steady_placeAnswer _ _
    · exact State.steady_abortAudit_startSave hm _ _ _
  · next hm =>
    split
    · exact s.steady_placeAnswer _ _
    · exact State.steady_joinPending hm _
  · exact s.steady_placeAnswer _ _
  · exact s.steady_placeAnswer _ _

/-! ## Writes of entries, and the recomputation after them -/

/-- The verdict of a table looks at the tripped condition and the class of its entries alone (R34). -/
theorem deriveVerdict_map {t : List Entry} {g : Entry → Entry}
    (h : ∀ e, (g e).tripped = e.tripped ∧ (g e).cls = e.cls) : deriveVerdict (t.map g) = deriveVerdict t := by
  simp [deriveVerdict, Function.comp_def, h]

/-- Once the table is built, the recomputation after any writes of entries settles the verdict (R35, R36). -/
theorem State.Settled.recompute {s u : State} (hs : s.Settled) (h : s.SameRing u) (c : Cause) :
    (u.recompute c).Settled := by
  have hbuilt : ¬ u.unbuilt := fun hu => hs.built (h.unbuilt.mp hu)
  have hchanged : deriveVerdict u.table ≠ u.verdict → (u.changeVerdict (deriveVerdict u.table) c).Settled :=
    fun hne => ⟨hbuilt, rfl, (h.ringOk hs.ring).changeVerdict hne c⟩
  obtain ⟨hsame, he⟩ | ⟨hne, -, he⟩ | ⟨hne, -, he⟩ := u.recompute_cases c <;> rw [he]
  · exact ⟨hbuilt, hsame.symm, h.ringOk hs.ring⟩
  · exact hchanged hne
  · exact (hchanged hne).steady (State.steady_requestSave _ _)

theorem State.sameRing_writeEntries (s : State) (f : Entry → Option Entry) : s.SameRing (s.writeEntries f) :=
  ⟨RetentionMode.withdrawIds_loading _ _, rfl, rfl, rfl, rfl, rfl⟩

theorem State.steady_markSettings (s : State) : s.Steady s.markSettings :=
  ⟨⟨RetentionMode.withdrawSettings_loading _, rfl, rfl, rfl, rfl, rfl⟩, rfl⟩

/-- A tally has no part in the tripped condition (R31). -/
theorem Entry.zeroTally_tripped (e : Entry) : e.zeroTally.tripped = e.tripped ∧ e.zeroTally.cls = e.cls := by
  unfold Entry.zeroTally
  split <;> exact ⟨rfl, rfl⟩

theorem State.steady_zeroTallies (s : State) (w : Fin 8) : s.Steady (s.zeroTallies w) := by
  refine ⟨⟨Iff.rfl, rfl, rfl, rfl, rfl, rfl⟩, deriveVerdict_map (fun e => ?_)⟩
  split
  · exact e.zeroTally_tripped
  · exact ⟨rfl, rfl⟩

theorem State.steady_setCounter (s : State) (w : Fin 8) (c : Counter) : s.Steady (s.setCounter w c) :=
  .of_eq rfl rfl rfl rfl rfl rfl rfl

theorem State.steady_setInput (s : State) (i : Fin 4) (e : EventInput) : s.Steady (s.setInput i e) :=
  .of_eq rfl rfl rfl rfl rfl rfl rfl

theorem State.steady_setPort (s : State) (p : Port) (u : PortUnit) : s.Steady (s.setPort p u) :=
  .of_eq rfl rfl rfl rfl rfl rfl rfl

theorem State.steady_grant (s : State) (p : Port) : s.Steady (s.grant p) := .of_eq rfl rfl rfl rfl rfl rfl rfl

/-! ## Proposals -/

theorem State.steady_foldl {α : Type} (f : State → α → State) (h : ∀ (t : State) x, t.Steady (f t x)) (l : List α)
    (s : State) : s.Steady (l.foldl f s) := by
  induction l generalizing s with
  | nil => exact .refl s
  | cons x l ih => exact (h s x).trans (ih (f s x))

theorem State.steady_closeProposal (s : State) (k : Fin 4) (o : ProposalOutcome) :
    s.Steady (s.closeProposal k o) := by
  unfold State.closeProposal
  split
  · exact .of_eq rfl rfl rfl rfl rfl rfl rfl
  · exact .refl s

theorem State.steady_freeProposal (s : State) (k : Fin 4) : s.Steady (s.freeProposal k) :=
  .of_eq rfl rfl rfl rfl rfl rfl rfl

theorem State.steady_makeProposal (s : State) (p : Port) (code : StructuralCode) (ps : List Byte) :
    s.Steady (s.makeProposal p code ps).1 := by
  unfold State.makeProposal
  split
  · exact .refl s
  · exact .of_eq rfl rfl rfl rfl rfl rfl rfl

theorem State.steady_discardOpen (s : State) : s.Steady s.discardOpen := by
  refine State.steady_foldl _ (fun t k => ?_) _ s
  split
  · exact t.steady_closeProposal _ _
  · exact .refl t

theorem State.steady_freeProposalsOf (s : State) (p : Port) : s.Steady (s.freeProposalsOf p) := by
  refine State.steady_foldl _ (fun t k => ?_) _ s
  split
  · split
    · exact t.steady_freeProposal _
    · exact .refl t
  · exact .refl t

theorem State.steady_resetPort (s : State) (p : Port) : s.Steady (s.resetPort p) := by
  have hmode : s.Steady { s with mode := s.mode.removePort p } :=
    State.steady_mode (RetentionMode.removePort_loading _ _)
  have hunit : ∀ t : State, t.Steady ((t.setNotice p Notice.reset).setSlot p Slot.reset) :=
    fun _ => .of_eq rfl rfl rfl rfl rfl rfl rfl
  exact (hmode.trans (State.steady_freeProposalsOf _ p)).trans (hunit _)

/-! ## The commands that write entries -/

theorem settled_applyDefine (x : DefineParams) {s : State} (hs : s.Settled) : (applyDefine x s).1.Settled := by
  have hadd : s.SameRing (s.addEntry x.entry) := ⟨RetentionMode.withdrawIds_loading _ _, rfl, rfl, rfl, rfl, rfl⟩
  unfold applyDefine
  split
  · exact hs
  · split
    · exact hs
    · split
      · exact hs
      · exact hs.recompute (hadd.trans (State.steady_definitionChange _).ring) _

theorem settled_applyRetire (id : Byte) {s : State} (hs : s.Settled) : (applyRetire id s).1.Settled := by
  have hdrop : s.SameRing ((s.dropEntry id).unbindAll id) :=
    ⟨RetentionMode.withdrawIds_loading _ _, rfl, rfl, rfl, rfl, rfl⟩
  unfold applyRetire
  split
  · exact hs
  · exact hs.recompute
      (hdrop.trans ((State.steady_markSettings _).trans (State.steady_definitionChange _)).ring) _

theorem settled_applyTune (x : TuneParams) {s : State} (hs : s.Settled) : (applyTune x s).1.Settled := by
  unfold applyTune
  split
  · exact hs
  · split
    · exact hs
    · exact hs.recompute ((s.sameRing_writeEntries _).trans (State.steady_definitionChange _).ring) _

theorem settled_applyClear (id : Byte) {s : State} (hs : s.Settled) : (applyClear id s).1.Settled := by
  unfold applyClear
  split
  · exact hs
  · exact hs.recompute (s.sameRing_writeEntries _) _

theorem sameRing_applyItems (items : List (Byte × Word16)) (s : State) : s.SameRing (applyItems s items) := by
  induction items generalizing s with
  | nil => exact .refl s
  | cons item items ih => exact (s.sameRing_writeEntries _).trans (ih _)

theorem settled_applyReport (p : Port) (items : List (Byte × Word16)) {s : State} (hs : s.Settled) :
    (applyReport p items s).1.Settled := by
  unfold applyReport
  split
  · exact hs
  · exact hs.recompute (sameRing_applyItems items s) _

/-! ## The commands that leave the tripped condition -/

theorem steady_applySetWindow (x : SetWindowParams) (s : State) : s.Steady (applySetWindow x s).1 := by
  unfold applySetWindow
  dsimp only
  split
  · exact .refl s
  · exact ((s.steady_setCounter _ _).trans (State.steady_setCounter _ _ _)).trans (State.steady_markSettings _)

theorem steady_applyJoinPair (x : Fin 4 × Bool) (s : State) : s.Steady (applyJoinPair x s).1 := by
  have hjoin : ∀ (t : State) (j : Vector Bool 4), t.Steady { t with joined := j } :=
    fun _ _ => .of_eq rfl rfl rfl rfl rfl rfl rfl
  unfold applyJoinPair
  dsimp only
  split
  · exact .refl s
  · split
    · exact .refl s
    · refine State.Steady.trans ?_ (State.steady_markSettings _)
      refine State.Steady.trans ?_ (State.steady_zeroTallies _ _)
      refine State.Steady.trans ?_ (State.steady_setCounter _ _ _)
      exact ((s.steady_setCounter _ _).trans (State.steady_setCounter _ _ _)).trans (hjoin _ _)

theorem State.steady_setRunning (s : State) (w : Fin 8) (on : Bool) : s.Steady (s.setRunning w on) :=
  (s.steady_setCounter _ _).trans (State.steady_markSettings _)

theorem steady_applyPresetWindow (w : Fin 8) (s : State) : s.Steady (applyPresetWindow w s).1 :=
  (s.steady_setCounter _ _).trans (State.steady_zeroTallies _ _)

theorem State.steady_bind (s : State) (x : BindParams) : s.Steady (s.bind x) :=
  (s.steady_setInput _ _).trans (State.steady_markSettings _)

theorem steady_applyBind (x : BindParams) (s : State) : s.Steady (applyBind x s).1 := by
  unfold applyBind
  split
  · exact s.steady_bind x
  · split
    · exact .refl s
    · split
      · exact .refl s
      · exact s.steady_bind x
      · exact s.steady_bind x

/-- Settings of the part as a whole are written with their mark. -/
theorem State.Steady.settings {s t : State} (h : s.Steady t) : s.Steady t.markSettings := h.trans t.steady_markSettings

theorem steady_applySetAutosave (x : Bool × Word16) (s : State) : s.Steady (applySetAutosave x s).1 :=
  State.Steady.settings (.of_eq rfl rfl rfl rfl rfl rfl rfl)

theorem steady_applyUnfreeze (s : State) : s.Steady (applyUnfreeze () s).1 :=
  State.Steady.settings (.of_eq rfl rfl rfl rfl rfl rfl rfl)

theorem steady_applyFreeze (l : Word16) (s : State) : s.Steady (applyFreeze l s).1 := by
  unfold applyFreeze
  split
  · exact .refl s
  · exact State.Steady.settings (.of_eq rfl rfl rfl rfl rfl rfl rfl)

theorem steady_applyWithdraw (p : Port) (n : Word16) (s : State) : s.Steady (applyWithdraw p n s).1 := by
  unfold applyWithdraw
  split
  · exact .refl s
  · split
    · exact .refl s
    · split
      · exact .refl s
      · split
        · exact s.steady_closeProposal _ _
        · exact .refl s

theorem steady_applyReadProposal (p : Port) (n : Word16) (s : State) : s.Steady (applyReadProposal p n s).1 := by
  unfold applyReadProposal
  split
  · exact .refl s
  · split
    · exact .refl s
    · split
      · exact .refl s
      · dsimp only
        split
        · exact s.steady_freeProposal _
        · exact .refl s

theorem steady_applyAck (p : Port) (seq : Word16) (s : State) : s.Steady (applyAck p seq s).1 := by
  unfold applyAck
  dsimp only
  split
  · exact .refl s
  · split
    · exact .of_eq rfl rfl rfl rfl rfl rfl rfl
    · exact .refl s

theorem steady_applyAudit (resume : Bool) (s : State) : s.Steady (applyAudit resume s).1 := by
  unfold applyAudit
  split
  case h_6 hm =>
    split
    · exact .refl s
    · split
      · exact .refl s
      · exact ⟨⟨iff_of_false (fun h => nomatch h) (by simp [hm]), rfl, rfl, rfl, rfl, rfl⟩, rfl⟩
  all_goals exact .refl s

/-! ## Every request -/

theorem State.Settled.direct {α : Type} {s : State} (hs : s.Settled) {ident : List Byte → List Byte}
    {parse : List Byte → Option α} {apply : α → State → State × Answer} (ps : List Byte)
    (h : ∀ x, (apply x s).1.Settled) : (s.direct ident parse apply ps).1.Settled := by
  unfold State.direct
  split
  · exact hs
  · exact h _

theorem State.Settled.structural {α : Type} {s : State} (hs : s.Settled) {p : Port} {code : StructuralCode}
    {ident : List Byte → List Byte} {parse : List Byte → Option α} {apply : α → State → State × Answer}
    (ps : List Byte) (h : ∀ x, (apply x s).1.Settled) :
    (s.structural p code ident parse apply ps).1.Settled := by
  unfold State.structural
  split
  · exact hs
  · split
    · exact hs.steady (s.steady_makeProposal _ _ _)
    · exact h _

theorem State.Settled.applyHeldWith {α : Type} {s : State} (hs : s.Settled) {ident : List Byte → List Byte}
    {parse : List Byte → Option α} {apply : α → State → State × Answer} (ps : List Byte)
    (h : ∀ x, (apply x s).1.Settled) : (applyHeldWith ident parse apply ps s).1.Settled := by
  unfold Machine.applyHeldWith
  split
  · exact h _
  · exact hs

theorem settled_applyHeld (code : StructuralCode) (ps : List Byte) {s : State} (hs : s.Settled) :
    (applyHeld code ps s).1.Settled := by
  cases code with
  | define => exact hs.applyHeldWith ps (fun x => settled_applyDefine x hs)
  | retire => exact hs.applyHeldWith ps (fun id => settled_applyRetire id hs)
  | tune => exact hs.applyHeldWith ps (fun x => settled_applyTune x hs)
  | clear => exact hs.applyHeldWith ps (fun id => settled_applyClear id hs)
  | setWindow => exact hs.applyHeldWith ps (fun x => hs.steady (steady_applySetWindow x s))
  | joinPair => exact hs.applyHeldWith ps (fun x => hs.steady (steady_applyJoinPair x s))
  | startWindow => exact hs.applyHeldWith ps (fun w => hs.steady (s.steady_setRunning w true))
  | stopWindow => exact hs.applyHeldWith ps (fun w => hs.steady (s.steady_setRunning w false))
  | presetWindow => exact hs.applyHeldWith ps (fun w => hs.steady (steady_applyPresetWindow w s))
  | bindInput => exact hs.applyHeldWith ps (fun x => hs.steady (steady_applyBind x s))
  | setAutosave => exact hs.applyHeldWith ps (fun x => hs.steady (steady_applySetAutosave x s))
  | unfreeze => exact hs.applyHeldWith ps (fun _ => hs.steady (steady_applyUnfreeze s))

theorem settled_applyConfirm (p : Port) (n : Word16) {s : State} (hs : s.Settled) :
    (applyConfirm p n s).1.Settled := by
  have hconfirm : ∀ k q, (s.confirmProposal k q).1.Settled := by
    intro k q
    have hclosed : ∀ o, ((applyHeld q.code q.params s).1.closeProposal k o).Settled :=
      fun o => (settled_applyHeld q.code q.params hs).steady (State.steady_closeProposal _ k o)
    unfold State.confirmProposal
    dsimp only
    split
    · exact (hclosed _).steady (State.steady_discardOpen _)
    · exact hclosed _
  unfold applyConfirm
  split
  · exact hs
  · split
    · exact hs
    · split
      · exact hs
      · split
        · exact hs
        · exact hconfirm _ _

/-- The request of a command of 10.2 leaves the verdict and the ring in order. -/
theorem settled_commandRequest (c : Instr) (ps : List Byte) {s : State} (hs : s.Settled) :
    (commandRequest c ps s).1.Settled := by
  cases c with
  | define p => exact hs.structural ps (fun x => settled_applyDefine x hs)
  | retire p => exact hs.structural ps (fun id => settled_applyRetire id hs)
  | tune p => exact hs.structural ps (fun x => settled_applyTune x hs)
  | clear p => exact hs.structural ps (fun id => settled_applyClear id hs)
  | report p => exact hs.direct ps (fun items => settled_applyReport p items hs)
  | ack p => exact hs.direct ps (fun seq => hs.steady (steady_applyAck p seq s))
  | setNotice p => exact hs.direct ps (fun _ => hs.steady (.of_eq rfl rfl rfl rfl rfl rfl rfl))
  | setWindow p => exact hs.structural ps (fun x => hs.steady (steady_applySetWindow x s))
  | joinPair p => exact hs.structural ps (fun x => hs.steady (steady_applyJoinPair x s))
  | startWindow p => exact hs.structural ps (fun w => hs.steady (s.steady_setRunning w true))
  | stopWindow p => exact hs.structural ps (fun w => hs.steady (s.steady_setRunning w false))
  | presetWindow p => exact hs.structural ps (fun w => hs.steady (steady_applyPresetWindow w s))
  | bindInput p => exact hs.structural ps (fun x => hs.steady (steady_applyBind x s))
  | freeze p => exact hs.direct ps (fun l => hs.steady (steady_applyFreeze l s))
  | unfreeze p => exact hs.structural ps (fun _ => hs)
  | confirm p => exact hs.direct ps (fun n => settled_applyConfirm p n hs)
  | withdraw p => exact hs.direct ps (fun n => hs.steady (steady_applyWithdraw p n s))
  | readProposal p => exact hs.direct ps (fun n => hs.steady (steady_applyReadProposal p n s))
  | setAutosave p => exact hs.structural ps (fun x => hs.steady (steady_applySetAutosave x s))
  | audit p => exact hs.direct ps (fun resume => hs.steady (steady_applyAudit resume s))
  | identify | readEntry | list | readVerdict | readHistory | readWindow | readInput | readRetention | readAudit =>
    exact hs.direct ps (fun _ => hs)
  | _ => exact hs

/-! ## Every step -/

/-- A command is taken by a part that is READY, so its table is built. -/
theorem State.VerdictInv.takeCommand {s : State} (hs : s.VerdictInv) {p : Port} {test : Byte → Bool}
    {request : List Byte → State → State × Answer}
    (h : ∀ ps {t : State}, t.Settled → (request ps t).1.Settled) : (s.takeCommand p test request).VerdictInv := by
  unfold State.takeCommand
  split
  · next htake =>
    have hsettled := hs.settled ((s.canTake_iff p test).mp htake).1
    exact ((h _ (hsettled.steady (s.steady_grant p))).steady (State.steady_placeAnswer _ _ _)).verdictInv
  · exact hs

theorem steady_execSave (p : Port) {s t : State} (h : execSave p s = .next t) : s.Steady t := by
  cases h
  split
  · split
    · exact (s.steady_grant p).trans (State.steady_requestPortSave _ p)
    · exact (s.steady_grant p).trans (State.steady_placeAnswer _ _ _)
  · exact .refl s

theorem verdictInv_exec_command {c : Instr} {p : Port} {code : Byte} (hc : portAndCode c = some (p, code))
    {s t : State} (hs : s.VerdictInv) (h : exec c s = .next t) : t.VerdictInv := by
  by_cases hsave : code = 0x60
  · obtain rfl := eq_save_of_code (hsave ▸ hc)
    exact (steady_execSave p h).verdictInv hs
  · rw [exec_command hc hsave] at h
    cases h
    exact hs.takeCommand (settled_commandRequest c)

theorem State.steady_takeFrame {s : State} {p : Port} {k : PortUnit → State} (h : ∀ u, s.Steady (k u)) :
    s.Steady (s.takeFrame p k) := by
  unfold State.takeFrame
  dsimp only
  split
  · split
    · exact s.steady_setPort _ _
    · exact h _
  · exact .refl s

theorem steady_execFetch (p : Port) (n : Nat) {s t : State} (h : execFetch p n s = .next t) : s.Steady t := by
  cases h
  refine State.steady_takeFrame (fun u => ?_)
  split
  · exact s.steady_setPort _ _
  · exact s.steady_setPort _ _

theorem steady_execBadKindFrame (p : Port) (kind : Option Byte) (n : Nat) {s t : State}
    (h : execBadKindFrame p kind n s = .next t) : s.Steady t := by
  cases h
  split
  · exact State.steady_takeFrame (fun _ => .refl s)
  · split
    · exact .refl s
    · exact State.steady_takeFrame (fun u => s.steady_setPort _ _)

theorem settled_effectOf (p : Port) (code : Byte) (ps : List Byte) {s : State} (hs : s.Settled) :
    (effectOf p code ps s).Settled := by
  obtain h | ⟨c, -, -, h⟩ := effectOf_cases p code ps s <;> rw [h]
  · exact hs
  · exact settled_commandRequest c ps hs

/-- A PORT RESET leaves the verdict; the request that it meets is one of a part that is READY. -/
theorem verdictInv_execPortReset (p : Port) (frame : ResetFrame) {s t : State} (hs : s.VerdictInv)
    (h : execPortReset p frame s = .next t) : t.VerdictInv := by
  cases h
  unfold State.takeFrame
  dsimp only
  split
  · split
    · exact (s.steady_setPort _ _).verdictInv hs
    · split
      · split
        · next hmeets =>
          obtain ⟨-, htake⟩ := Bool.and_eq_true_iff.mp hmeets
          have hsettled := hs.settled ((s.canTake_iff p _).mp htake).1
          exact (settled_effectOf _ _ _ (hsettled.steady
            (((s.steady_grant p).trans (State.steady_setPort _ _ _)).trans (State.steady_resetPort _ p)))).verdictInv
        · exact ((s.steady_setPort _ _).trans (State.steady_resetPort _ p)).verdictInv hs
      · exact (s.steady_setPort _ _).verdictInv hs
  · exact hs

/-! ### Reset and load -/

/-- A part restarted is NOMINAL with an empty ring, and its load has built nothing (R40, R93). -/
theorem State.verdictInv_restart (s : State) (array : PerImage Image) : (s.restart array).VerdictInv :=
  ⟨fun _ => ⟨rfl, rfl⟩, fun h => absurd ⟨rfl, rfl⟩ h, Nat.zero_le _, ⟨rfl, rfl, rfl⟩, trivial⟩

theorem verdictInv_execReset (cause : ResetCause) (cut : CutPoint) (faults : List ArrayFault) {s t : State}
    (hs : s.VerdictInv) (h : execReset cause cut faults s = .next t) : t.VerdictInv := by
  have hrst : s.Steady { s with rstAsserted := true } := .of_eq rfl rfl rfl rfl rfl rfl rfl
  have hports : ∀ (u : State) (x : PerPort PortUnit), u.Steady { u with ports := x } :=
    fun _ _ => .of_eq rfl rfl rfl rfl rfl rfl rfl
  cases h
  split
  · exact (hports _ _).verdictInv (State.verdictInv_restart _ _)
  · split
    · exact State.verdictInv_restart _ _
    · exact hrst.verdictInv hs

theorem steady_execRstNRelease (selected : PortSet) {s t : State} (h : execRstNRelease selected s = .next t) :
    s.Steady t := by
  cases h
  exact State.steady_ite (.of_eq rfl rfl rfl rfl rfl rfl rfl)

theorem State.sameRing_loadImage (s : State) : s.SameRing s.loadImage := by
  unfold State.loadImage
  split <;> exact ⟨Iff.rfl, rfl, rfl, rfl, rfl, rfl⟩

/-- The load makes the verdict of the table it has built, from NOMINAL (R40, R96). -/
theorem State.settled_buildLoad {s : State} (hv : s.verdict = .nominal) (hr : s.RingOk) : s.buildLoad.Settled := by
  have himage := s.sameRing_loadImage
  have hbuilt : ¬ s.buildLoad.unbuilt := fun h => nomatch h.2
  have hverdict : s.loadImage.loadVerdict.verdict = deriveVerdict s.loadImage.loadVerdict.table ∧
      s.loadImage.loadVerdict.RingOk := by
    unfold State.loadVerdict
    dsimp only
    split
    · next hn => exact ⟨by rw [himage.verdict, hv, hn], himage.ringOk hr⟩
    · next hn => exact ⟨rfl, (himage.ringOk hr).changeVerdict (by rw [himage.verdict, hv]; exact hn) _⟩
  obtain ⟨hlen, hnewest, hchain⟩ := hverdict.2
  exact ⟨hbuilt, hverdict.1, hlen, hnewest, hchain⟩

theorem State.Settled.finishLoad {s : State} (hs : s.Settled) : s.finishLoad.Settled := by
  obtain ⟨-, hverdict, hlen, hnewest, hchain⟩ := hs
  refine ⟨fun h => ?_, hverdict, hlen, hnewest, hchain⟩
  have hmode : (if s.pfwAsserted then RetentionMode.held else .idle) = .loading := h.1
  split at hmode <;> cases hmode

theorem verdictInv_execLoadEnd (upTo : LoadPoint) {s t : State} (hs : s.VerdictInv)
    (h : execLoadEnd upTo s = .next t) : t.VerdictInv := by
  cases h
  split
  · next hload =>
    have hbuild : (if s.loadBuilt then s else s.buildLoad).Settled := by
      obtain ⟨⟨-, hnot⟩, hverdict, -, hring⟩ | hsettled := s.verdictInv_iff.mp hs
      · rw [hnot]; exact State.settled_buildLoad hverdict hring
      · have hb : s.loadBuilt = true := by
          obtain ⟨-, hloading⟩ := Bool.and_eq_true_iff.mp hload
          exact Bool.not_eq_false _ ▸ fun hb => hsettled.built ⟨eq_of_beq hloading, hb⟩
        rw [hb]; exact hsettled
    dsimp only
    split
    · exact hbuild.verdictInv
    · exact hbuild.finishLoad.verdictInv
  · exact hs

/-! ### The power-fail warning, the time base, inputs and counters -/

theorem State.steady_powerFails (s : State) : s.Steady s.powerFails := by
  unfold State.powerFails
  split
  · next hm => exact State.steady_startSave (by simp [hm]) _ _
  · next hm => exact State.steady_abortAudit_startSave hm _ _ _
  · next hm => exact State.steady_joinPending hm _
  all_goals exact .refl s

theorem steady_execPfwAssertion {s t : State} (h : execPfwAssertion s = .next t) : s.Steady t := by
  have hpin : s.Steady { s with pfwAsserted := true } := .of_eq rfl rfl rfl rfl rfl rfl rfl
  cases h
  split
  · exact .refl s
  · split
    · exact hpin.trans (State.steady_powerFails _)
    · exact hpin

theorem steady_execPfwRelease {s t : State} (h : execPfwRelease s = .next t) : s.Steady t := by
  have hpin : s.Steady { s with pfwAsserted := false } := .of_eq rfl rfl rfl rfl rfl rfl rfl
  cases h
  split
  · split
    · next hm => exact hpin.trans (State.steady_mode (by rw [hm]; simp))
    all_goals exact hpin
  · exact .refl s

theorem steady_execTick {s t : State} (h : execTick s = .next t) : s.Steady t := by
  cases h
  exact State.steady_ite (.of_eq rfl rfl rfl rfl rfl rfl rfl)

theorem steady_execUptimeSecond {s t : State} (h : execUptimeSecond s = .next t) : s.Steady t := by
  cases h
  exact State.steady_ite (.of_eq rfl rfl rfl rfl rfl rfl rfl)

theorem steady_execProposalExpiry (k : Fin 4) {s t : State} (h : execProposalExpiry k s = .next t) : s.Steady t := by
  cases h
  split
  · split
    · exact s.steady_closeProposal _ _
    · exact .refl s
  · exact .refl s

theorem steady_execIntervalTimerExpiry {s t : State} (h : execIntervalTimerExpiry s = .next t) : s.Steady t := by
  have htimer : s.Steady s.reloadTimer := .of_eq rfl rfl rfl rfl rfl rfl rfl
  cases h
  exact State.steady_ite (htimer.trans (State.steady_requestSave _ _))

theorem steady_execEventInputEdge (i : Fin 4) (soon : Bool) {s t : State} (h : execEventInputEdge i soon s = .next t) :
    s.Steady t := by
  cases h
  split
  · exact .refl s
  · split
    · exact s.steady_setInput _ _
    · split
      · exact s.steady_setInput _ _
      · split
        · exact s.steady_setInput _ _
        · split
          · exact (s.steady_setInput _ _).trans (State.steady_setInput _ _ _)
          all_goals exact s.steady_setInput _ _

theorem steady_execEventInputReturn (i : Fin 4) {s t : State} (h : execEventInputReturn i s = .next t) :
    s.Steady t := by
  cases h
  exact State.steady_ite (s.steady_setInput _ _)

theorem steady_execFilterWidthElapsed (i : Fin 4) {s t : State} (h : execFilterWidthElapsed i s = .next t) :
    s.Steady t := by
  cases h
  exact State.steady_ite (s.steady_setInput _ _)

theorem steady_execWindowTickDecrement (w : Fin 8) {s t : State} (h : execWindowTickDecrement w s = .next t) :
    s.Steady t := by
  cases h
  split
  · split
    · exact (s.steady_setCounter _ _).trans (State.steady_setCounter _ _ _)
    · exact .refl s
  · exact .refl s

theorem steady_execWindowEventDecrement (n : PulseCount) {s t : State} (h : execWindowEventDecrement n s = .next t) :
    s.Steady t := by
  cases h
  split
  · dsimp only
    split
    · exact (s.steady_setInput _ _).trans (State.steady_setCounter _ _ _)
    · exact s.steady_setInput _ _
  · exact .refl s

/-! ### Folds, closes and early looks -/

theorem State.sameRing_foldEntry (s : State) (id : Byte) : s.SameRing (s.foldEntry id) :=
  ⟨RetentionMode.withdrawIds_loading _ _, rfl, rfl, rfl, rfl, rfl⟩

theorem verdictInv_execPulseFold (i : Fin 4) {s t : State} (hs : s.VerdictInv) (h : execPulseFold i s = .next t) :
    t.VerdictInv := by
  cases h
  split
  · next hready =>
    have hsettled := hs.settled (Bool.and_eq_true_iff.mp hready).1
    dsimp only
    split
    · split
      · exact (hsettled.recompute ((s.steady_setInput _ _).ring.trans (State.sameRing_foldEntry _ _)) _).verdictInv
      · exact (s.steady_setInput _ _).verdictInv hs
    · exact (s.steady_setInput _ _).verdictInv hs
  · exact hs

/-- A counter written, entries written, the verdict recomputed: a close and an early look. -/
theorem State.Settled.counterRequest {s : State} (hs : s.Settled) (w : Fin 8) (x : Counter)
    (f : Entry → Option Entry) (c : Cause) : (((s.setCounter w x).writeEntries f).recompute c).Settled :=
  hs.recompute ((s.steady_setCounter w x).ring.trans (State.sameRing_writeEntries _ f)) c

theorem verdictInv_execWindowClose (w : Fin 8) {s t : State} (hs : s.VerdictInv) (h : execWindowClose w s = .next t) :
    t.VerdictInv := by
  cases h
  split
  · split
    · next hready => exact ((hs.settled hready).counterRequest _ _ _ _).verdictInv
    · exact hs
  all_goals exact hs

theorem verdictInv_execEarlyLook (w : Fin 8) {s t : State} (hs : s.VerdictInv) (h : execEarlyLook w s = .next t) :
    t.VerdictInv := by
  cases h
  split
  · split
    · next hready => exact ((hs.settled hready).counterRequest _ _ _ _).verdictInv
    · exact hs
  all_goals exact hs

/-! ### The steps of a save and of a sweep -/

theorem steady_execOpenMarkingWritten {s t : State} (h : execOpenMarkingWritten s = .next t) : s.Steady t := by
  cases h
  split
  · next hm =>
    split
    · exact ⟨⟨by simp [hm], rfl, rfl, rfl, rfl, rfl⟩, rfl⟩
    · exact .refl s
  all_goals exact .refl s

/-- The unsaved mark has no part in the tripped condition (R31). -/
theorem SaveNote.clearMark_tripped (n : SaveNote) (e : Entry) :
    (n.clearMark e).tripped = e.tripped ∧ (n.clearMark e).cls = e.cls := by
  unfold SaveNote.clearMark
  split <;> exact ⟨rfl, rfl⟩

theorem State.steady_saveSucceeds (s : State) (sv : Save) : s.Steady (s.saveSucceeds sv) := by
  refine State.Steady.trans ?_ (State.steady_placeAnswers _ _ _)
  exact ⟨⟨Iff.rfl, rfl, rfl, rfl, rfl, rfl⟩, deriveVerdict_map sv.note.clearMark_tripped⟩

theorem State.steady_saveFails (s : State) (sv : Save) : s.Steady (s.saveFails sv) := by
  refine State.Steady.trans ?_ (State.steady_placeAnswers _ _ _)
  exact .of_eq rfl rfl rfl rfl rfl rfl rfl

theorem State.steady_afterSave {s : State} (h : s.mode ≠ .loading) (w : Option PendingSave) :
    s.Steady (s.afterSave w) := by
  have hmode : ∀ m : RetentionMode, m ≠ .loading → s.Steady { s with mode := m } :=
    fun m hm => State.steady_mode (iff_of_false hm h)
  unfold State.afterSave
  split
  · dsimp only
    split
    · exact (hmode .faulted (fun h => nomatch h)).trans (State.steady_placeAnswers _ _ _)
    · exact hmode .faulted (fun h => nomatch h)
  · split
    · exact State.steady_startSave h _ _
    · split
      · exact hmode .held (fun h => nomatch h)
      · exact hmode .idle (fun h => nomatch h)

theorem steady_execSaveEnd (ok : Bool) {s t : State} (h : execSaveEnd ok s = .next t) : s.Steady t := by
  cases h
  split
  · next sv w hm =>
    have hend : s.Steady (if ok then s.saveSucceeds sv else s.saveFails sv) := by
      split
      · exact s.steady_saveSucceeds sv
      · exact s.steady_saveFails sv
    refine hend.trans (State.steady_afterSave (fun hl => ?_) w)
    rw [hend.ring.loading, hm] at hl
    cases hl
  all_goals exact .refl s

theorem steady_execAuditSegmentEnd (faults : List ArrayFault) {s t : State}
    (h : execAuditSegmentEnd faults s = .next t) : s.Steady t := by
  cases h
  split
  · next hm =>
    dsimp only
    split
    · exact .of_eq rfl rfl rfl rfl rfl rfl rfl
    · have hidle : ∀ (x : PerImage Image) (a : Audit), s.Steady { s with array := x, audit := a, mode := .idle } :=
        fun _ _ => ⟨⟨by simp [hm], rfl, rfl, rfl, rfl, rfl⟩, rfl⟩
      split
      · exact (hidle _ _).trans (State.steady_requestSave _ _)
      · exact hidle _ _
  all_goals exact .refl s

/-- Every command and event keeps the verdict invariant. -/
theorem verdictInv_exec (c : Instr) {s t : State} (hs : s.VerdictInv) (h : exec c s = .next t) : t.VerdictInv := by
  cases hc : portAndCode c with
  | some x => exact verdictInv_exec_command (p := x.1) (code := x.2) hc hs h
  | none =>
    cases c with
    | unknownCommand p => cases h; exact hs.takeCommand (fun _ _ ht => ht)
    | commandFrame p bytes => cases h; exact (State.steady_takeFrame (fun _ => s.steady_setPort _ _)).verdictInv hs
    | poll p n => cases h; exact (State.steady_takeFrame (fun _ => s.steady_setPort _ _)).verdictInv hs
    | fetch p n => exact (steady_execFetch p n h).verdictInv hs
    | portReset p frame => exact verdictInv_execPortReset p frame hs h
    | badKindFrame p kind n => exact (steady_execBadKindFrame p kind n h).verdictInv hs
    | reset cause cut faults => exact verdictInv_execReset cause cut faults hs h
    | loadEnd upTo => exact verdictInv_execLoadEnd upTo hs h
    | pfwAssertion => exact (steady_execPfwAssertion h).verdictInv hs
    | pfwRelease => exact (steady_execPfwRelease h).verdictInv hs
    | tick => exact (steady_execTick h).verdictInv hs
    | uptimeSecond => exact (steady_execUptimeSecond h).verdictInv hs
    | proposalExpiry k => exact (steady_execProposalExpiry k h).verdictInv hs
    | intervalTimerExpiry => exact (steady_execIntervalTimerExpiry h).verdictInv hs
    | eventInputEdge i soon => exact (steady_execEventInputEdge i soon h).verdictInv hs
    | eventInputReturn i => exact (steady_execEventInputReturn i h).verdictInv hs
    | filterWidthElapsed i => exact (steady_execFilterWidthElapsed i h).verdictInv hs
    | pulseFold i => exact verdictInv_execPulseFold i hs h
    | windowTickDecrement w => exact (steady_execWindowTickDecrement w h).verdictInv hs
    | windowEventDecrement n => exact (steady_execWindowEventDecrement n h).verdictInv hs
    | windowClose w => exact verdictInv_execWindowClose w hs h
    | earlyLook w => exact verdictInv_execEarlyLook w hs h
    | saveEnd ok => exact (steady_execSaveEnd ok h).verdictInv hs
    | auditSegmentEnd faults => exact (steady_execAuditSegmentEnd faults h).verdictInv hs
    | lossOfPower cut => cases h; exact State.verdictInv_restart _ _
    | rstNRelease selected => exact (steady_execRstNRelease selected h).verdictInv hs
    | openMarkingWritten => exact (steady_execOpenMarkingWritten h).verdictInv hs
    | _ => cases hc

/-- Settles O7, command by command: a write of entries is settled by its recomputation, all else is steady. -/
theorem stepKeepsVerdictAndHistoryInAgreement : Obligations.StepKeepsVerdictAndHistoryInAgreement := by
  unfold Obligations.StepKeepsVerdictAndHistoryInAgreement
  intro s t hs hstep
  obtain ⟨-, rfl⟩ | ⟨c, rest, -, hexec⟩ := step_cases hstep
  · exact hs
  · have hqueue : s.Steady { s with pending := rest } := .of_eq rfl rfl rfl rfl rfl rfl rfl
    exact verdictInv_exec c (hqueue.verdictInv hs) hexec

end Sys2Proof.Machine
end

section
/-! PROOFS. REPORT, whole or not at all (O27), and the time base (O43). -/

namespace Sys2Proof.Machine

/-! ## The block of a REPORT (R44) -/

/-- A 16-bit field read back from its two bytes. -/
theorem word16_be16 (x : Word16) : word16 (x.extractLsb' 8 8) (x.extractLsb' 0 8) = x := by
  refine BitVec.eq_of_toNat_eq ?_
  have hx := x.isLt
  rw [word16_toNat, BitVec.extractLsb'_toNat, BitVec.extractLsb'_toNat, Nat.shiftRight_eq_div_pow,
    Nat.shiftRight_zero]
  omega

theorem parseItems_flatMap (items : List (Byte × Word16)) :
    parseItems items.length (items.flatMap (fun i => i.1 :: be16 i.2)) = some items := by
  induction items with
  | nil => rfl
  | cons item items ih =>
    rw [List.flatMap_cons]
    show (parseItems items.length (items.flatMap (fun i => i.1 :: be16 i.2))).map _ = _
    rw [ih, Option.map_some, word16_be16]

theorem parseReport_reportBlock {items : List (Byte × Word16)} (h1 : 1 ≤ items.length) (h8 : items.length ≤ 8) :
    parseReport (reportBlock items) = some items := by
  have hn : (BitVec.ofNat 8 items.length).toNat = items.length := by
    rw [BitVec.toNat_ofNat]; exact Nat.mod_eq_of_lt (by omega)
  simp only [parseReport, reportBlock, hn, parseItems_flatMap]
  exact if_pos ⟨h1, h8⟩

/-! ## The checks on its items (R45) -/

theorem checkItem_of_passes {s : State} {p : Port} {item : Byte × Word16} (h : itemPasses s p item) :
    checkItem s p item = none := by
  obtain ⟨e, he, hp, hvalue⟩ := h
  simp only [checkItem, he, hp]
  cases hk : e.kind <;> simp_all [KindPart.isLevel]

theorem checkItem_of_fails {s : State} {p : Port} {item : Byte × Word16} {status : Status}
    (h : ItemFails s p item status) : checkItem s p item = some status := by
  cases h with
  | absent h => simp only [checkItem, h]
  | notPermitted e he hp => simp only [checkItem, he, hp, if_true]
  | badValue e he hp hlevel hv =>
    simp only [checkItem, he, hp]
    cases hk : e.kind <;> simp_all [KindPart.isLevel]

/-- A grant has no part in the checks. -/
theorem ItemFails.granted {s : State} {p : Port} {item : Byte × Word16} {status : Status}
    (h : ItemFails s p item status) (q : Port) : ItemFails (s.grant q) p item status := by
  cases h with
  | absent h => exact .absent h
  | notPermitted e he hp => exact .notPermitted e he hp
  | badValue e he hp hlevel hv => exact .badValue e he hp hlevel hv

/-- The first item that fails is the one after those that pass (R45, R46). -/
theorem firstFailure_append {s : State} {p : Port} {before : List (Byte × Word16)}
    (h : ∀ x ∈ before, itemPasses s p x) (rest : List (Byte × Word16)) (n : Nat) :
    firstFailure s p n (before ++ rest) = firstFailure s p (n + before.length) rest := by
  induction before generalizing n with
  | nil => rfl
  | cons x before ih =>
    obtain ⟨hx, hbefore⟩ := List.forall_mem_cons.mp h
    rw [List.cons_append, firstFailure, checkItem_of_passes hx]
    show firstFailure s p (n + 1) (before ++ rest) = _
    rw [ih hbefore, List.length_cons, Nat.add_right_comm, Nat.add_assoc]

theorem firstFailure_of_passes {s : State} {p : Port} {items : List (Byte × Word16)}
    (h : ∀ x ∈ items, itemPasses s p x) (n : Nat) : firstFailure s p n items = none := by
  have happend := firstFailure_append h [] n
  rwa [List.append_nil] at happend

/-! ## Its effect (R47 to R50) -/

theorem Entry.observe_id (v : Word16) (e : Entry) : (e.observe v).id = e.id := (Entry.becomes_observe v e).id

/-- A write of entries that keeps their ids keeps them present. -/
theorem State.findEntry_written {s : State} {id : Byte} {f : Entry → Entry} (hf : ∀ e, (f e).id = e.id) (id' : Byte)
    (h : (findEntry id' s.table).isSome = true) : (findEntry id' (s.written id f).table).isSome = true := by
  obtain ⟨e, he⟩ := Option.isSome_iff_exists.mp h
  obtain ⟨hmem, hid⟩ := mem_of_findEntry he
  refine List.find?_isSome.mpr ⟨_, List.mem_map_of_mem hmem, ?_⟩
  split
  · simpa [hf] using hid
  · simpa using hid

/-- Items of entries that are present are written one after another. -/
theorem applyItems_eq_written {items : List (Byte × Word16)} {s : State}
    (h : ∀ x ∈ items, (findEntry x.1 s.table).isSome = true) :
    applyItems s items = items.foldl (fun t item => t.written item.1 (Entry.observe item.2)) s := by
  induction items generalizing s with
  | nil => rfl
  | cons item items ih =>
    obtain ⟨hitem, hitems⟩ := List.forall_mem_cons.mp h
    obtain ⟨e, he⟩ := Option.isSome_iff_exists.mp hitem
    show applyItems (s.writeEntry item.1 (Entry.observe item.2)) items = _
    rw [s.writeEntry_eq_written he]
    exact ih (fun x hx => State.findEntry_written (Entry.observe_id item.2) x.1 (hitems x hx))

theorem State.blind_writtenItems (items : List (Byte × Word16)) :
    State.Blind (fun s => items.foldl (fun t item => t.written item.1 (Entry.observe item.2)) s) := by
  induction items with
  | nil => exact fun _ _ _ => rfl
  | cons item items ih => exact ih.comp (State.blind_written item.1 (Entry.observe item.2))

theorem applyReport_of_passes {s : State} {p : Port} {items : List (Byte × Word16)}
    (h : ∀ x ∈ items, itemPasses s p x) :
    applyReport p items s =
      ((items.foldl (fun t item => t.written item.1 (Entry.observe item.2)) s).recompute (.report p),
        ⟨.ok, [byteOf items.length]⟩) := by
  have hpresent : ∀ x ∈ items, (findEntry x.1 s.table).isSome = true := fun x hx => by
    obtain ⟨e, he, -⟩ := h x hx
    rw [he]; rfl
  simp only [applyReport, firstFailure_of_passes h, applyItems_eq_written hpresent]

theorem applyReport_of_fails {s : State} {p : Port} {before after : List (Byte × Word16)} {item : Byte × Word16}
    {status : Status} (h : ∀ x ∈ before, itemPasses s p x) (hitem : ItemFails s p item status) :
    applyReport p (before ++ item :: after) s = (s, refuse status [byteOf before.length, item.1]) := by
  simp only [applyReport, firstFailure_append h, Nat.zero_add, firstFailure, checkItem_of_fails hitem]

/-- Settles O27, by the first failing item and the writes of the items. -/
theorem reportsApplyWholeOrNotAtAll : Obligations.ReportsApplyWholeOrNotAtAll := by
  unfold Obligations.ReportsApplyWholeOrNotAtAll
  constructor
  · intro s p items h h1 h8 hpass applied
    have hrequest : requestReport p (reportBlock items) (s.grant p) = _ :=
      (State.direct_ok _ _ _ _ (parseReport_reportBlock h1 h8)).trans
        (applyReport_of_passes (s := s.grant p) hpass)
    exact congrArg Host.Outcome.next (State.takeCommand_effect (test := fun y => y == 0x16) h rfl
      ((State.blind_recompute (.report p)).comp (State.blind_writtenItems items)) hrequest)
  · intro s p before after item status h h8 hpass hitem
    have h1 : 1 ≤ (before ++ item :: after).length := by simp; omega
    have hrequest : requestReport p (reportBlock (before ++ item :: after)) (s.grant p) = _ :=
      (State.direct_ok _ _ _ _ (parseReport_reportBlock h1 h8)).trans
        (applyReport_of_fails (s := s.grant p) hpass (hitem.granted p))
    exact congrArg Host.Outcome.next (State.takeCommand_answer (test := fun y => y == 0x16) h rfl hrequest)

/-! ## Ticks and seconds (R37, R66, R102) -/

@[simp] theorem getElem_vec8 {α : Type} (f : Fin 8 → α) (w : Fin 8) : (vec8 f)[w] = f w := by
  fin_cases w <;> rfl

/-- A tick at one counter, by its source and run state (R66). -/
theorem Counter.tick_eq (c : Counter) :
    c.tick = if c.running = true ∧ c.source.toByte = 0 then { c with phase := c.phase + 1 } else c := by
  unfold Counter.tick
  cases hs : c.source with
  | tick d => simp [Source.toByte]
  | event i => simp [Source.toByte]

theorem Proposal.tick_eq (q : Proposal) :
    q.tick = if q.outcome = none then { q with remaining := q.remaining - 1 } else q := by
  simp only [Proposal.tick, Option.isNone_iff_eq_none]

theorem exec_tick_ready {s : State} (h : s.ready = true) : exec .tick s = .next
    { s with
      windows := vec8 (fun w => if s.counts w then (s.windows[w]).tick else s.windows[w])
      proposals := vec4 (fun k => (s.proposals[k]).map Proposal.tick)
      intervalTimer := s.intervalTimer - 1 } := congrArg Host.Outcome.next (if_pos h)

/-- A second more stays at the top (R137). -/
theorem secondMore_eq (x : Word32) : secondMore x = if x = 0xFFFFFFFF then x else x + 1 := by
  have hx := x.isLt
  refine BitVec.eq_of_toNat_eq ?_
  split
  · next h => rw [h]; rfl
  · next h =>
    have hne : x.toNat ≠ 0xFFFFFFFF := fun he => h (BitVec.eq_of_toNat_eq he)
    have hone : (1 : Word32).toNat = 1 := rfl
    simp only [secondMore, satAdd32, BitVec.toNat_ofNat, BitVec.toNat_add, hone]
    omega

/-- An OPEN proposal is not in the closing order (R100). -/
theorem State.ProposalInv.not_mem_closingOrder {s : State} (h : s.ProposalInv) {k : Fin 4} {q : Proposal}
    (hq : s.proposals[k] = some q) (ho : q.outcome = none) : k ∉ s.closingOrder := by
  obtain ⟨-, -, -, -, ⟨-, hclosed⟩, -, -⟩ := h
  intro hk
  obtain ⟨q', o, hq', ho'⟩ := (hclosed k).mp hk
  cases hq.symm.trans hq'
  cases ho.symm.trans ho'

/-- An expired proposal closes last in the closing order (R100, R102). -/
theorem State.closeProposal_expired {s : State} {k : Fin 4} {q : Proposal} (hq : s.proposals[k] = some q)
    (hr : q.remaining = 0) (hk : k ∉ s.closingOrder) :
    s.closeProposal k .expired =
      { s with proposals := s.proposals.set k (some { q with outcome := some .expired })
               closingOrder := s.closingOrder ++ [k] } := by
  have hfilter : s.closingOrder.filter (fun j => j != k) = s.closingOrder :=
    List.filter_eq_self.mpr (fun j hj => bne_iff_ne.mpr (fun he => hk (he ▸ hj)))
  simp only [State.closeProposal, hq, hfilter, ← hr]
  rfl

/-- Settles O43, event by event. -/
theorem timeBaseTicksSecondsAndExpiries : Obligations.TimeBaseTicksSecondsAndExpiries := by
  unfold Obligations.TimeBaseTicksSecondsAndExpiries
  refine ⟨fun s => ⟨fun hr => ⟨_, exec_tick_ready hr, rfl, fun w => ?_, fun k => ?_⟩, fun hr => ?_⟩,
    ⟨fun s hl => ?_, fun s hr hi ht => ?_⟩, fun s k q hr hinv hq ho h0 => ?_⟩
  · rw [getElem_vec8, Counter.tick_eq]
    by_cases hc : s.counts w = true <;> simp [hc]
  · rw [getElem_vec4, funext Proposal.tick_eq]
  · exact congrArg Host.Outcome.next (if_neg (by simp [hr]))
  · rw [← funext secondMore_eq]
    exact congrArg Host.Outcome.next (if_pos hl)
  · exact congrArg Host.Outcome.next (if_pos (by simpa [hr, ht] using hi))
  · rw [← State.closeProposal_expired hq h0 (hinv.not_mem_closingOrder hq ho)]
    show execProposalExpiry k s = _
    simp only [execProposalExpiry, hq, hr, ho, h0, Option.isNone_none, and_self, if_true]

end Sys2Proof.Machine
end

section
/-! PROOFS. What the ends of saves and segments, the power-fail edges, ticks and seconds leave as they find it (O59). -/

namespace Sys2Proof.Machine

/-! ## The end of a save -/

/-- A port unit with the state and the response of its slot put aside. -/
def PortUnit.unanswered (u : PortUnit) : PortUnit :=
  { u with slot := { u.slot with state := .empty, response := none } }

/-- An entry with its unsaved mark put aside. -/
def Entry.unmarked (e : Entry) : Entry := { e with unsaved := false }

theorem PortUnit.eq_of_unanswered {u v : PortUnit} (h : u.unanswered = v.unanswered) :
    u = { v with slot := { v.slot with state := u.slot.state, response := u.slot.response } } := by
  obtain ⟨⟨state, tag, code, params, response⟩, result, reply, ignore⟩ := u
  cases h
  rfl

/-- `x` with every field that the end of a save may move taken from `u`. -/
def State.withSaveFields (x u : State) : State :=
  { x with
    ports := u.ports, table := u.table, settingsUnsaved := u.settingsUnsaved, array := u.array,
    imageInfo := u.imageInfo, activeImage := u.activeImage, mode := u.mode, failures := u.failures,
    sinceSave := u.sinceSave, intervalTimer := u.intervalTimer }

/-- What the end of a save leaves: of entries all but their unsaved marks, of ports all but the state and the response of
their slots. -/
structure State.SaveMoves (s t : State) : Prop where
  frame : t = s.withSaveFields t
  table : t.table.map Entry.unmarked = s.table.map Entry.unmarked
  ports : ∀ q, (t.ports.get q).unanswered = (s.ports.get q).unanswered

theorem State.SaveMoves.refl (s : State) : s.SaveMoves s := ⟨rfl, rfl, fun _ => rfl⟩

theorem State.SaveMoves.trans {s t u : State} (h : s.SaveMoves t) (h' : t.SaveMoves u) : s.SaveMoves u where
  frame :=
    calc u = t.withSaveFields u := h'.frame
      _ = (s.withSaveFields t).withSaveFields u := congrArg (fun x => State.withSaveFields x u) h.frame
      _ = s.withSaveFields u := rfl
  table := h'.table.trans h.table
  ports q := (h'.ports q).trans (h.ports q)

/-- What a failed save leaves besides: the marks, the active image and the timers (R127). -/
structure State.KeepsSaved (s t : State) : Prop where
  table : t.table = s.table
  settingsUnsaved : t.settingsUnsaved = s.settingsUnsaved
  activeImage : t.activeImage = s.activeImage
  sinceSave : t.sinceSave = s.sinceSave
  intervalTimer : t.intervalTimer = s.intervalTimer

theorem State.KeepsSaved.trans {s t u : State} (h : s.KeepsSaved t) (h' : t.KeepsSaved u) : s.KeepsSaved u :=
  ⟨h'.table.trans h.table, h'.settingsUnsaved.trans h.settingsUnsaved, h'.activeImage.trans h.activeImage,
    h'.sinceSave.trans h.sinceSave, h'.intervalTimer.trans h.intervalTimer⟩

theorem State.placeAnswer_unanswered (s : State) (p : Port) (a : Answer) (q : Port) :
    ((s.placeAnswer p a).ports.get q).unanswered = (s.ports.get q).unanswered := by
  obtain ⟨-, h⟩ | ⟨-, h⟩ := s.placeAnswer_cases p a <;> rw [h]
  rw [State.setSlot_ports, perPort_get_set]
  split
  · next hq => rw [hq]; rfl
  · rfl

theorem State.placeAnswers_unanswered (s : State) (who : PortSet) (a : Answer) (q : Port) :
    ((s.placeAnswers who a).ports.get q).unanswered = (s.ports.get q).unanswered := by
  unfold State.placeAnswers
  induction allPorts generalizing s with
  | nil => rfl
  | cons p ports ih =>
    rw [List.foldl_cons, ih]
    split
    · exact s.placeAnswer_unanswered p a q
    · rfl

/-- Answers move slots alone, and in them the state and the response. -/
theorem State.SaveMoves.placeAnswers {s t : State} (h : s.SaveMoves t) (who : PortSet) (a : Answer) :
    s.SaveMoves (t.placeAnswers who a) := by
  have hports := t.placeAnswers_unanswered who a
  rw [t.placeAnswers_ports who a] at hports ⊢
  exact h.trans ⟨rfl, rfl, hports⟩

theorem State.KeepsSaved.placeAnswers {s t : State} (h : s.KeepsSaved t) (who : PortSet) (a : Answer) :
    s.KeepsSaved (t.placeAnswers who a) := by
  rw [t.placeAnswers_ports who a]
  exact h.trans ⟨rfl, rfl, rfl, rfl, rfl⟩

theorem SaveNote.clearMark_unmarked (n : SaveNote) (e : Entry) : (n.clearMark e).unmarked = e.unmarked := by
  unfold SaveNote.clearMark
  split <;> rfl

theorem State.saveMoves_saveSucceeds (s : State) (sv : Save) : s.SaveMoves (s.saveSucceeds sv) := by
  refine State.SaveMoves.placeAnswers ?_ _ _
  refine ⟨rfl, ?_, fun _ => rfl⟩
  show (s.table.map sv.note.clearMark).map Entry.unmarked = _
  rw [List.map_map]
  exact List.map_congr_left (fun e _ => sv.note.clearMark_unmarked e)

theorem State.saveMoves_saveFails (s : State) (sv : Save) :
    s.SaveMoves (s.saveFails sv) ∧ s.KeepsSaved (s.saveFails sv) := by
  refine ⟨State.SaveMoves.placeAnswers ?_ _ _, State.KeepsSaved.placeAnswers ?_ _ _⟩
  · exact ⟨rfl, rfl, fun _ => rfl⟩
  · exact ⟨rfl, rfl, rfl, rfl, rfl⟩

theorem State.saveMoves_afterSave (s : State) (w : Option PendingSave) :
    s.SaveMoves (s.afterSave w) ∧ s.KeepsSaved (s.afterSave w) := by
  have hmode : ∀ (m : RetentionMode) (x : PerImage ImageInfo),
      s.SaveMoves { s with mode := m, imageInfo := x } ∧ s.KeepsSaved { s with mode := m, imageInfo := x } :=
    fun _ _ => ⟨⟨rfl, rfl, fun _ => rfl⟩, rfl, rfl, rfl, rfl, rfl⟩
  unfold State.afterSave
  split
  · dsimp only
    split
    · exact ⟨(hmode _ _).1.placeAnswers _ _, (hmode _ _).2.placeAnswers _ _⟩
    · exact hmode _ _
  · split
    · exact hmode _ _
    · split
      · exact hmode _ _
      · exact hmode _ _

theorem saveMoves_execSaveEnd {b : Bool} {s t : State} (h : execSaveEnd b s = .next t) :
    s.SaveMoves t ∧ (b = false → s.KeepsSaved t) := by
  cases h
  split
  · next sv w hm =>
    cases b with
    | true =>
      exact ⟨(s.saveMoves_saveSucceeds sv).trans (State.saveMoves_afterSave _ w).1, fun h => nomatch h⟩
    | false =>
      obtain ⟨hmoves, hkeeps⟩ := s.saveMoves_saveFails sv
      exact ⟨hmoves.trans (State.saveMoves_afterSave _ w).1,
        fun _ => hkeeps.trans (State.saveMoves_afterSave _ w).2⟩
  all_goals exact ⟨.refl s, fun _ => ⟨rfl, rfl, rfl, rfl, rfl⟩⟩

/-! ## The retention unit's other events -/

/-- `x` with the array and the state of the retention unit and its sweep taken from `u`. -/
def State.withUnitFields (x u : State) : State :=
  { x with array := u.array, imageInfo := u.imageInfo, mode := u.mode, audit := u.audit }

/-- `x` with the retention unit, the level of PFW_N and the interval timer taken from `u`. -/
def State.withTimedUnit (x u : State) : State :=
  { x.withUnitFields u with pfwAsserted := u.pfwAsserted, intervalTimer := u.intervalTimer }

/-- The retention unit alone moves. -/
def State.UnitMoves (s t : State) : Prop := t = s.withUnitFields t

theorem State.UnitMoves.trans {s t u : State} (h : s.UnitMoves t) (h' : t.UnitMoves u) : s.UnitMoves u :=
  calc u = t.withUnitFields u := h'
    _ = (s.withUnitFields t).withUnitFields u := congrArg (fun x => State.withUnitFields x u) h
    _ = s.withUnitFields u := rfl

/-- The retention unit moves after its pin and its timer have moved. -/
theorem State.UnitMoves.timed {s u : State} {pfw : Bool} {timer : Nat}
    (h : State.UnitMoves { s with pfwAsserted := pfw, intervalTimer := timer } u) : u = s.withTimedUnit u :=
  calc u = State.withUnitFields { s with pfwAsserted := pfw, intervalTimer := timer } u := h
    _ = s.withTimedUnit (State.withUnitFields { s with pfwAsserted := pfw, intervalTimer := timer } u) := rfl
    _ = s.withTimedUnit u := congrArg s.withTimedUnit h.symm

theorem State.unitMoves_requestSave (s : State) (c : Causes) : s.UnitMoves (s.requestSave c) := by
  obtain h | ⟨-, h⟩ | ⟨-, h⟩ | ⟨_, _, -, h⟩ := s.requestSave_cases c <;> rw [h] <;> rfl

theorem State.unitMoves_powerFails (s : State) : s.UnitMoves s.powerFails := by
  unfold State.powerFails
  split <;> rfl

theorem unitMoves_execOpenMarkingWritten {s t : State} (h : execOpenMarkingWritten s = .next t) : s.UnitMoves t := by
  cases h
  split
  · split <;> rfl
  all_goals rfl

theorem timed_execPfwAssertion {s t : State} (h : execPfwAssertion s = .next t) : t = s.withTimedUnit t := by
  cases h
  split
  · rfl
  · split
    · exact (State.unitMoves_powerFails { s with pfwAsserted := true }).timed (timer := s.intervalTimer)
    · rfl

theorem timed_execPfwRelease {s t : State} (h : execPfwRelease s = .next t) : t = s.withTimedUnit t := by
  cases h
  split
  · split <;> rfl
  · rfl

theorem timed_execIntervalTimerExpiry {s t : State} (h : execIntervalTimerExpiry s = .next t) :
    t = s.withTimedUnit t := by
  cases h
  split
  · exact (s.reloadTimer.unitMoves_requestSave .ofInterval).timed (pfw := s.pfwAsserted)
  · rfl

theorem unitMoves_execAuditSegmentEnd {faults : List ArrayFault} {s t : State}
    (h : execAuditSegmentEnd faults s = .next t) : s.UnitMoves t := by
  cases h
  split
  · dsimp only
    split
    · rfl
    · have hidle : ∀ (x : PerImage Image) (a : Audit),
          s.UnitMoves { s with array := x, audit := a, mode := .idle } := fun _ _ => rfl
      split
      · exact (hidle _ _).trans (State.unitMoves_requestSave _ _)
      · exact hidle _ _
  all_goals rfl

/-! ## Ticks and seconds -/

/-- A tick moves the phase of a counter alone (R66). -/
theorem Counter.tick_frame (c : Counter) : c.tick = { c with phase := c.tick.phase } := by
  rw [Counter.tick_eq]
  split <;> rfl

/-- A tick moves the remaining lifetime of a proposal alone (R102). -/
theorem Proposal.tick_frame (q : Proposal) : { q.tick with remaining := 0 } = { q with remaining := 0 } := by
  rw [Proposal.tick_eq]
  split <;> rfl

theorem execTick_frame {s t : State} (h : execTick s = .next t) :
    t = { s with windows := t.windows, proposals := t.proposals, intervalTimer := t.intervalTimer } ∧
    (∀ w : Fin 8, t.windows[w] = { s.windows[w] with phase := (t.windows[w]).phase }) ∧
    ∀ k : Fin 4, (t.proposals[k]).map (fun q => { q with remaining := 0 }) =
      (s.proposals[k]).map (fun q => { q with remaining := 0 }) := by
  cases h
  split
  · refine ⟨rfl, fun w => ?_, fun k => ?_⟩
    · rw [getElem_vec8]
      split
      · exact Counter.tick_frame _
      · rfl
    · rw [getElem_vec4, Option.map_map]
      exact congrArg (fun f => (s.proposals[k]).map f) (funext Proposal.tick_frame)
  · exact ⟨rfl, fun _ => rfl, fun _ => rfl⟩

/-- Settles O59, by the fields that each event moves. -/
theorem retentionAndTimeEventsLeaveTheRest : Obligations.RetentionAndTimeEventsLeaveTheRest := by
  unfold Obligations.RetentionAndTimeEventsLeaveTheRest
  intro c s t h
  refine ⟨?_, fun hc => ?_, ?_, ?_, ?_⟩
  · rintro b rfl
    obtain ⟨hmoves, hkeeps⟩ := saveMoves_execSaveEnd h
    refine ⟨hmoves.frame, hmoves.table, fun q => PortUnit.eq_of_unanswered (hmoves.ports q), fun hb => ?_⟩
    obtain ⟨htable, hsettings, hactive, hsince, htimer⟩ := hkeeps hb
    exact ⟨htable, hsettings, hactive, hsince, htimer⟩
  · simp only [List.mem_cons, List.not_mem_nil, or_false] at hc
    obtain rfl | rfl | rfl | rfl := hc
    · exact (unitMoves_execOpenMarkingWritten h).timed
    · exact timed_execPfwAssertion h
    · exact timed_execPfwRelease h
    · exact timed_execIntervalTimerExpiry h
  · rintro faults rfl
    exact unitMoves_execAuditSegmentEnd h
  · rintro rfl
    exact execTick_frame h
  · rintro rfl
    cases h
    split <;> rfl

end Sys2Proof.Machine
end

section
/-! PROOFS. LOAD_END: the table, the settings and the verdict that it builds, and the part READY (O55). -/

namespace Sys2Proof.Machine

/-! ## Codes read back (10.3): a code that is in range is the one its value is written with -/

theorem byte_of_toNat {x : Byte} {n : Nat} (h : x.toNat = n) : BitVec.ofNat 8 n = x := by
  rw [← h, BitVec.ofNat_toNat, BitVec.setWidth_eq]

theorem filterOf_some {x : Byte} {f : Filter} (h : filterOf x = some f) : f.toByte = x := by
  unfold filterOf at h
  split at h <;> cases h
  all_goals exact byte_of_toNat ‹_›

theorem edgeOf_some {x : Byte} {e : Edge} (h : edgeOf x = some e) : e.toByte = x := by
  unfold edgeOf at h
  split at h <;> cases h
  all_goals exact byte_of_toNat ‹_›

theorem dividerOf_some {x : Byte} {d : Divider} (h : dividerOf x = some d) : d.toByte = x := by
  unfold dividerOf at h
  split at h <;> cases h
  all_goals exact byte_of_toNat ‹_›

theorem four?_some {n : Nat} {i : Fin 4} (h : four? n = some i) : i.val = n := by
  unfold four? at h
  split at h <;> cases h
  rfl

theorem sourceOf_some {source selector : Byte} {src : Source} (h : sourceOf source selector = some src) :
    src.toByte = source ∧ src.selector = selector := by
  unfold sourceOf at h
  split at h
  · next hs =>
    obtain ⟨d, hd, rfl⟩ := Option.map_eq_some_iff.mp h
    exact ⟨byte_of_toNat hs, dividerOf_some hd⟩
  · next hs =>
    obtain ⟨i, hi, rfl⟩ := Option.map_eq_some_iff.mp h
    exact ⟨byte_of_toNat hs, byte_of_toNat (four?_some hi).symm⟩
  · cases h

/-! ## The table of an image (R117) -/

/-- The check on a position is the one written out from the manual. -/
theorem stands_iff (last : Byte) (r : EntryRecord) : stands last (some r) = true ↔ r.StandsAfter last := by
  refine ⟨standsAfter_of_stands, fun h => ?_⟩
  obtain ⟨hcheck, hid, hid', hlast, hcls, hrep, htrip, hstep, hever, hlow, hlg, hlow', hkind⟩ := h
  have hgrade : 1 ≤ r.grade.toNat := Nat.le_trans hlow hlg
  simp only [stands, EntryRecord.checkOk, EntryRecord.inRange, EntryRecord.gradeOk, Bool.and_eq_true, Bool.or_eq_true,
    beq_iff_eq, bne_iff_ne, decide_eq_true_eq]
  obtain ⟨hk, hg, hfields⟩ | ⟨hk, hg, hsettled, hfields⟩ | ⟨hk, hg, hfields⟩ := hkind
  · have hgrade' : r.grade.toNat ≤ 250 := Nat.le_trans hg (by decide)
    simp_all
  · have hsettled' : r.settle.toNat ≤ r.windowsSeen.toNat ∨ r.grade = 200 :=
      (Nat.lt_or_ge r.windowsSeen.toNat r.settle.toNat).symm.imp_right hsettled
    simp_all
  · have hgrade' : r.grade.toNat ≤ 250 := Nat.le_trans hg (by decide)
    simp_all

theorem loadEntries_stands {last : Byte} {r : EntryRecord} (h : r.StandsAfter last)
    (rs : List (Option EntryRecord)) : loadEntries last (some r :: rs) = entryOf r :: loadEntries r.id rs := by
  simp only [loadEntries, (stands_iff last r).mpr h, if_true]

theorem loadEntries_dropped {last : Byte} {r : EntryRecord} (h : ¬ r.StandsAfter last)
    (rs : List (Option EntryRecord)) : loadEntries last (some r :: rs) = loadEntries last rs := by
  simp only [loadEntries, mt (stands_iff last r).mp h, Bool.false_eq_true, if_false]

/-! ## The settings of an image (R118) -/

theorem loadJoined_iff (x : SettingsRecord) (t : List Entry) (k : Fin 4) :
    loadJoined x t k = true ↔ x.joined[k] = 1 ∧ ∀ e ∈ t, e.boundTo (highOf k) = false := by
  simp [loadJoined]

theorem isHigh_iff (w : Fin 8) : isHigh w = true ↔ w = highOf (pairOf w) := by revert w; decide

/-- The counter of a pair that is not its high one is its low one. -/
theorem eq_lowOf {w : Fin 8} (h : isHigh w = false) : w = lowOf (pairOf w) := by revert w; decide

/-- A loaded counter holds its own settings; its run state and its count look at the pair (R64, R83). -/
theorem loadWindow_eq (x : SettingsRecord) (joined : Fin 4 → Bool) (w : Fin 8) :
    loadWindow x joined w =
      { loadCounter (x.counters[w]) with
        running := (x.counters[w]).running == 1 && !(isHigh w && x.joined[pairOf w] == 1)
        count := if joined (pairOf w) && !isHigh w then
            joinedValue (loadCounter (x.counters[highOf (pairOf w)])).reload (loadCounter (x.counters[w])).reload
          else (loadCounter (x.counters[w])).reload.toNat } := by
  unfold loadWindow
  dsimp only
  generalize isHigh w = high
  generalize (x.joined[pairOf w] == 1) = marked
  cases high with
  | false => cases joined (pairOf w) <;> simp [loadCounter, joinedValue]
  | true => cases marked <;> simp [loadCounter]

theorem loadCounter_reload (c : CounterRecord) : (loadCounter c).reload = if c.reload = 0 then 60 else c.reload := by
  simp only [loadCounter, beq_iff_eq]

/-- Source and selector load together, or as TICK 1000 ms (log entry 17). -/
theorem loadCounter_source (c : CounterRecord) :
    ((c.source = 0 ∧ c.selector.toNat ≤ 7) ∨ (c.source = 1 ∧ c.selector.toNat ≤ 3) →
      (loadCounter c).source.toByte = c.source ∧ (loadCounter c).source.selector = c.selector) ∧
    (¬ ((c.source = 0 ∧ c.selector.toNat ≤ 7) ∨ (c.source = 1 ∧ c.selector.toNat ≤ 3)) →
      (loadCounter c).source = .tick .ms1000) := by
  have hfits : (sourceOf c.source c.selector).isSome = true ↔
      (c.source = 0 ∧ c.selector.toNat ≤ 7) ∨ (c.source = 1 ∧ c.selector.toNat ≤ 3) := by
    rw [sourceOf_isSome]
    simp [within, ← BitVec.toNat_inj]
  rw [← hfits]
  simp only [loadCounter]
  cases hs : sourceOf c.source c.selector with
  | none => exact ⟨fun h => (nomatch h), fun _ => rfl⟩
  | some src => exact ⟨fun _ => sourceOf_some hs, fun h => absurd rfl h⟩

/-- A loaded counter that counts stands at its effective reload (R64, R65). -/
theorem State.loadSettings_count (s : State) (x : SettingsRecord) {w : Fin 8}
    (h : (s.loadSettings x).counts w = true) :
    ((s.loadSettings x).windows[w]).count = (s.loadSettings x).effectiveReload w := by
  have hwindow : ∀ v : Fin 8, (s.loadSettings x).windows[v] = loadWindow x (loadJoined x s.table) v :=
    getElem_vec8 _
  have hjoined : ∀ k : Fin 4, (s.loadSettings x).joined[k] = loadJoined x s.table k := getElem_vec4 _
  simp only [State.counts, State.pairJoined, hjoined] at h
  simp only [State.effectiveReload, hwindow, hjoined, loadWindow_eq]
  cases hj : loadJoined x s.table (pairOf w) with
  | false => simp
  | true =>
    have hlow : isHigh w = false := by simpa [hj] using h
    rw [← eq_lowOf hlow]
    simp [hlow]

/-- A counter as a load leaves it (R64, R83, R118). -/
theorem State.loadSettings_window (s : State) (x : SettingsRecord) (w : Fin 8) :
    let c := x.counters[w]
    let t := s.loadSettings x
    let d := t.windows[w]
    d.reload = (if c.reload = 0 then 60 else c.reload) ∧ d.compare = c.compare ∧ d.phase = 0 ∧ d.closes = 0 ∧
    d.waiting = [] ∧ (t.counts w = true → d.count = t.effectiveReload w) ∧
    (d.running = true ↔ c.running = 1 ∧ ¬ (w = highOf (pairOf w) ∧ x.joined[pairOf w] = 1)) ∧
    ((c.source = 0 ∧ c.selector.toNat ≤ 7) ∨ (c.source = 1 ∧ c.selector.toNat ≤ 3) →
      d.source.toByte = c.source ∧ d.source.selector = c.selector) ∧
    (¬ ((c.source = 0 ∧ c.selector.toNat ≤ 7) ∨ (c.source = 1 ∧ c.selector.toNat ≤ 3)) →
      d.source = .tick .ms1000) := by
  intro c t d
  have hcount : t.counts w = true → d.count = t.effectiveReload w := s.loadSettings_count x
  have hd : d = _ := (getElem_vec8 _ w).trans (loadWindow_eq x (loadJoined x s.table) w)
  have hrunning : d.running = true ↔ c.running = 1 ∧ ¬ (w = highOf (pairOf w) ∧ x.joined[pairOf w] = 1) := by
    rw [hd, ← isHigh_iff]
    simp only [Bool.and_eq_true, beq_iff_eq, Bool.not_eq_true', Bool.and_eq_false_imp, beq_eq_false_iff_ne, not_and,
      ne_eq, c]
  have hfields : d.reload = (loadCounter c).reload ∧ d.compare = c.compare ∧ d.phase = 0 ∧ d.closes = 0 ∧
      d.waiting = [] ∧ d.source = (loadCounter c).source := by
    rw [hd]
    exact ⟨rfl, rfl, rfl, rfl, rfl, rfl⟩
  obtain ⟨hreload, hcompare, hphase, hcloses, hwaiting, hsource⟩ := hfields
  obtain ⟨hfits, hno⟩ := loadCounter_source c
  rw [← hsource] at hfits hno
  exact ⟨hreload.trans (loadCounter_reload c), hcompare, hphase, hcloses, hwaiting, hcount, hrunning, hfits, hno⟩

theorem loadBinding_iff (y : InputRecord) (t : List Entry) (id : Byte) :
    loadBinding y t = some id ↔ id = y.binding ∧ ∃ z, findEntry id t = some z ∧ z.kind.isLevel = false := by
  unfold loadBinding
  cases hf : findEntry y.binding t with
  | none =>
    refine iff_of_false (fun h => nomatch h) ?_
    rintro ⟨rfl, z, hz, -⟩
    cases hf.symm.trans hz
  | some e =>
    have hbound : e.kind.isLevel = false →
        (some y.binding = some id ↔ id = y.binding ∧ ∃ z, findEntry id t = some z ∧ z.kind.isLevel = false) :=
      fun hl => ⟨fun h => by cases h; exact ⟨rfl, e, hf, hl⟩, fun h => by rw [h.1]⟩
    cases hk : e.kind with
    | count total => dsimp only; rw [hk]; exact hbound (by rw [hk]; rfl)
    | rate a w n total tally last seen => dsimp only; rw [hk]; exact hbound (by rw [hk]; rfl)
    | level a r =>
      dsimp only
      rw [hk]
      refine iff_of_false (fun h => nomatch h) ?_
      rintro ⟨rfl, z, hz, hl⟩
      cases hf.symm.trans hz
      rw [hk] at hl
      cases hl

theorem filterOf_getD (x : Byte) : (x.toNat ≤ 3 → ((filterOf x).getD .off).toByte = x) ∧
    (3 < x.toNat → (filterOf x).getD .off = .off) := by
  have hrange := (Bool.eq_iff_iff.mp (filterOf_isSome x)).trans (within_iff 0 x.toNat 3)
  cases hf : filterOf x with
  | none => exact ⟨fun h => absurd (hrange.mpr ⟨Nat.zero_le _, h⟩) (by simp [hf]), fun _ => rfl⟩
  | some f =>
    exact ⟨fun _ => filterOf_some hf, fun h => absurd (hrange.mp (by simp [hf])).2 (Nat.not_le.mpr h)⟩

theorem edgeOf_getD (x : Byte) : (x.toNat ≤ 1 → ((edgeOf x).getD .rise).toByte = x) ∧
    (1 < x.toNat → (edgeOf x).getD .rise = .rise) := by
  have hrange := (Bool.eq_iff_iff.mp (edgeOf_isSome x)).trans (within_iff 0 x.toNat 1)
  cases he : edgeOf x with
  | none => exact ⟨fun h => absurd (hrange.mpr ⟨Nat.zero_le _, h⟩) (by simp [he]), fun _ => rfl⟩
  | some e =>
    exact ⟨fun _ => edgeOf_some he, fun h => absurd (hrange.mp (by simp [he])).2 (Nat.not_le.mpr h)⟩

/-- An input as a load leaves it (R61, R118). -/
theorem State.loadSettings_input (s : State) (x : SettingsRecord) (i : Fin 4) :
    let y := x.inputs[i]
    let e := (s.loadSettings x).inputs[i]
    e = { s.inputs[i] with binding := e.binding, filter := e.filter, edge := e.edge } ∧
    (∀ id, e.binding = some id ↔ id = y.binding ∧ ∃ z, findEntry id s.table = some z ∧ z.kind.isLevel = false) ∧
    (y.filter.toNat ≤ 3 → e.filter.toByte = y.filter) ∧ (3 < y.filter.toNat → e.filter = .off) ∧
    (y.edge.toNat ≤ 1 → e.edge.toByte = y.edge) ∧ (1 < y.edge.toNat → e.edge = .rise) := by
  intro y e
  have he : e = loadInput (s.inputs[i]) y s.table := getElem_vec4 _ i
  obtain ⟨hfilter, hoff⟩ := filterOf_getD y.filter
  obtain ⟨hedge, hrise⟩ := edgeOf_getD y.edge
  rw [he]
  exact ⟨rfl, loadBinding_iff y s.table, hfilter, hoff, hedge, hrise⟩

/-! ## The load (R117, R118) -/

/-- The load takes the table and settings of the active image, or the no-image values. -/
theorem State.loadImage_eq_asLoaded (s : State) : s.loadImage = s.asLoaded := by
  cases hactive : s.activeImage with
  | some i =>
    simp only [State.loadImage, State.asLoaded, hactive, droppedEntries, Image.used, List.length_map,
      List.length_range]
  | none =>
    have hinputs : vec4 (fun i => { s.inputs[i] with filter := .off, edge := .rise, binding := none }) =
        s.inputs.map (fun e => { e with binding := none, filter := .off, edge := .rise }) := by
      refine Vector.ext (fun i hi => ?_)
      rw [Vector.getElem_map]
      exact getElem_vec4 _ ⟨i, hi⟩
    have hjoined : vec4 (fun _ => false) = Vector.replicate 4 false := rfl
    have hwindows : vec8 (fun _ => Counter.reset) =
        Vector.replicate 8 ⟨60, 0, .tick .ms1000, false, 60, 0, 0, []⟩ := rfl
    simp only [State.loadImage, State.asLoaded, hactive, State.defaultSettings, hinputs, hjoined, hwindows]

/-- The load moves the table, the settings, the counters and the inputs alone. -/
theorem State.loadImage_frame (s : State) :
    s.loadImage =
      { s with
        table := s.loadImage.table, droppedAtLoad := s.loadImage.droppedAtLoad, frozen := s.loadImage.frozen
        lifetime := s.loadImage.lifetime, autosaveOnWorsen := s.loadImage.autosaveOnWorsen
        autosaveInterval := s.loadImage.autosaveInterval, settingsUnsaved := s.loadImage.settingsUnsaved
        windows := s.loadImage.windows, joined := s.loadImage.joined, inputs := s.loadImage.inputs } := by
  unfold State.loadImage
  split <;> rfl

/-- A change from NOMINAL marks every port with a mask (R86). -/
theorem Notice.mark_worsening (n : Notice) : n.mark true = if n.mask = .none then n else ⟨n.mask, .pending⟩ := by
  obtain ⟨mask, state⟩ := n
  cases mask <;> rfl

/-- The verdict of a load, from NOMINAL: none of its own if the table gives NOMINAL, else one LOAD change (R40, R96). -/
theorem State.loadVerdict_cases {s : State} (h : s.verdict = .nominal) :
    (deriveVerdict s.table = .nominal ∧ s.loadVerdict = s) ∨
    (deriveVerdict s.table ≠ .nominal ∧ s.loadVerdict =
      { s with
        verdict := deriveVerdict s.table, verdictSeq := s.verdictSeq + 1, verdictSince := s.uptime
        notices := s.notices.map (fun n => if n.mask = .none then n else ⟨n.mask, .pending⟩)
        history :=
          (⟨s.verdictSeq + 1, .nominal, deriveVerdict s.table, .load, s.uptime⟩ :: s.history).take 12 }) := by
  unfold State.loadVerdict
  by_cases hv : deriveVerdict s.table = .nominal
  · exact .inl ⟨hv, if_pos hv⟩
  · have hworse : worsens .nominal (deriveVerdict s.table) = true := (worsens_iff _ _).mpr (.inl ⟨rfl, hv⟩)
    refine .inr ⟨hv, (if_neg hv).trans ?_⟩
    simp only [State.changeVerdict, State.takeRecord, h, hworse, Notice.mark_worsening]
    rfl

theorem exec_loadEnd {s : State} (hl : s.live = true) (hm : s.mode = .loading) :
    exec (.loadEnd .record) s = .next (if s.loadBuilt then s else s.buildLoad) ∧
    exec (.loadEnd .ready) s = .next (if s.loadBuilt then s else s.buildLoad).asStarted :=
  ⟨congrArg Host.Outcome.next (if_pos (by simp [hl, hm])), congrArg Host.Outcome.next (if_pos (by simp [hl, hm]))⟩

/-- The end of a load leaves a part with power and RST_N released READY (R118). -/
theorem State.asStarted_ready {s : State} (h : s.live = true) : s.asStarted.ready = true := by
  have hmode : s.asStarted.mode ≠ .loading := by
    show (if s.pfwAsserted then RetentionMode.held else .idle) ≠ .loading
    split <;> exact fun h => nomatch h
  exact Bool.and_eq_true_iff.mpr ⟨h, bne_iff_ne.mpr hmode⟩

/-- What a load up to its record builds from a NOMINAL verdict. -/
theorem State.buildLoad_spec {s : State} (hv : s.verdict = .nominal) :
    let t := s.buildLoad
    t.live = s.live ∧
    t = { s.asLoaded with
          verdict := deriveVerdict s.asLoaded.table
          verdictSeq := t.verdictSeq, verdictSince := t.verdictSince, notices := t.notices, history := t.history
          loadBuilt := true } ∧
    (t.verdict = .nominal → t.verdictSeq = s.verdictSeq ∧ t.verdictSince = s.verdictSince ∧ t.notices = s.notices ∧
      t.history = s.history) ∧
    (t.verdict ≠ .nominal → t.verdictSeq = s.verdictSeq + 1 ∧ t.verdictSince = s.uptime ∧
      t.history = (⟨s.verdictSeq + 1, .nominal, t.verdict, .load, s.uptime⟩ :: s.history).take 12 ∧
      t.notices = s.notices.map (fun n => if n.mask = .none then n else ⟨n.mask, .pending⟩)) := by
  have hframe := s.loadImage_frame
  rw [s.loadImage_eq_asLoaded] at hframe
  have hverdict : s.asLoaded.verdict = .nominal := by rw [hframe]; exact hv
  have hlive : s.asLoaded.live = s.live := by rw [hframe]; rfl
  have hkept : s.asLoaded.verdictSeq = s.verdictSeq ∧ s.asLoaded.verdictSince = s.verdictSince ∧
      s.asLoaded.notices = s.notices ∧ s.asLoaded.history = s.history := by
    rw [hframe]; exact ⟨rfl, rfl, rfl, rfl⟩
  have huptime : s.asLoaded.uptime = s.uptime := by rw [hframe]
  obtain ⟨hseq, hsince, hnotices, hhistory⟩ := hkept
  intro t
  have ht : t = { s.asLoaded.loadVerdict with loadBuilt := true } := by
    rw [← s.loadImage_eq_asLoaded]; rfl
  obtain ⟨hn, hload⟩ | ⟨hn, hload⟩ := State.loadVerdict_cases hverdict <;> rw [hload] at ht <;> rw [ht]
  · refine ⟨hlive, ?_, fun _ => ⟨hseq, hsince, hnotices, hhistory⟩, fun hne => absurd hverdict hne⟩
    rw [hn, ← hverdict]
  · refine ⟨hlive, rfl, fun he => absurd he hn, fun _ => ?_⟩
    rw [hseq, hnotices, hhistory, huptime]
    exact ⟨rfl, rfl, rfl, rfl⟩

/-- Settles O55, by the parts of the load: table, settings, verdict, and the part's own state. -/
theorem loadsEndInReady : Obligations.LoadsEndInReady := by
  unfold Obligations.LoadsEndInReady
  refine ⟨fun s hl hm hb hv => ?_, fun s hl hm hb => ?_, fun s upTo h => ?_, fun last r rs => ?_, fun s x => ?_,
    fun s selected h => ?_, fun s selected h => ?_⟩
  · obtain ⟨hlive, hspec⟩ := State.buildLoad_spec hv
    obtain ⟨hrecord, hready⟩ := exec_loadEnd hl hm
    rw [hb] at hrecord hready
    exact ⟨s.buildLoad, hrecord, hready, State.asStarted_ready (hlive.trans hl), hspec⟩
  · obtain ⟨hrecord, hready⟩ := exec_loadEnd hl hm
    rw [hb] at hrecord hready
    exact ⟨hrecord, hready⟩
  · exact congrArg Host.Outcome.next (if_neg (by simpa using fun hl => h.resolve_left (by simp [hl])))
  · exact ⟨rfl, rfl, fun h => loadEntries_stands h rs, fun h => loadEntries_dropped h rs⟩
  · refine ⟨rfl, fun k => ?_, fun w => ?_, fun i => ?_⟩
    · rw [← loadJoined_iff]
      exact Bool.eq_iff_iff.mp (getElem_vec4 _ k)
    · exact s.loadSettings_window x w
    · exact s.loadSettings_input x i
  · refine ⟨_, congrArg Host.Outcome.next (if_pos h), rfl, fun p => markOpenFrames_get selected s.ports p⟩
  · exact congrArg Host.Outcome.next (if_neg (by simp [h]))

end Sys2Proof.Machine
end

section
/-! PROOFS. One observation on an entry (O28), folds under the binding of the moment (O34), the edges of an event input
(O33), and decrements (O35). -/

namespace Sys2Proof.Machine

/-! ## One observation (R47 to R49) -/

/-- The model's saturating sum is the one written from R47. -/
theorem satAdd32_eq_cappedSum (x : Word32) (n : Nat) : satAdd32 x n = cappedSum x n := by
  unfold satAdd32 cappedSum
  refine BitVec.eq_of_toNat_eq ?_
  split
  · next h => rw [Nat.min_eq_left h, BitVec.toNat_ofNat, BitVec.toNat_add, BitVec.toNat_ofNat, Nat.add_mod_mod]
  · next h => rw [Nat.min_eq_right (by omega)]; rfl

theorem Entry.observe_count {e : Entry} {total : Word32} (h : e.kind = .count total) (v : Word16) :
    e.observe v = Entry.regraded { e with kind := .count (cappedSum total v.toNat) }
      (countGrade (cappedSum total v.toNat) e.step) := by
  simp only [Entry.observe, h, satAdd32_eq_cappedSum]
  rfl

theorem Entry.observe_rate {e : Entry} {a : Word16} {w : Fin 8} {n : Nat} {total tally : Word32}
    {last : Option Word32} {seen : Nat} (h : e.kind = .rate a w n total tally last seen) (v : Word16) :
    e.observe v =
      { e with kind := .rate a w n (cappedSum total v.toNat) (cappedSum tally v.toNat) last seen } := by
  simp only [Entry.observe, h, satAdd32_eq_cappedSum]

theorem Entry.observe_level {e : Entry} {a : Word16} {reading : Option Word16} (h : e.kind = .level a reading)
    (v : Word16) :
    e.observe v = Entry.regraded { e with kind := .level a (some v) } (levelGrade v a e.step) := by
  simp only [Entry.observe, h]
  rfl

/-- Settles O28, kind by kind. -/
theorem observationsMoveEntriesByKind : Obligations.ObservationsMoveEntriesByKind := by
  unfold Obligations.ObservationsMoveEntriesByKind
  exact fun e v => ⟨fun _ h => Entry.observe_count h v, fun _ _ _ _ _ _ _ h => Entry.observe_rate h v,
    fun _ _ h => Entry.observe_level h v⟩

/-! ## Folds (R55 to R57) -/

theorem State.writeEntries_congr {s : State} {f g : Entry → Option Entry} (h : ∀ e ∈ s.table, f e = g e) :
    s.writeEntries f = s.writeEntries g := by
  have htable : s.table.map (markedBy f) = s.table.map (markedBy g) :=
    List.map_congr_left (fun e he => by simp only [markedBy, h e he])
  have hgone : (fun id => s.table.any (fun e => e.id == id && (f e).isSome)) =
      (fun id => s.table.any (fun e => e.id == id && (g e).isSome)) := by
    funext id
    rw [Bool.eq_iff_iff]
    simp only [List.any_eq_true]
    exact exists_congr fun e => and_congr_right fun he => by rw [h e he]
  simp only [State.writeEntries, htable, hgone]

theorem RetentionMode.withdrawIds_none (m : RetentionMode) : m.withdrawIds (fun _ => false) = m := by
  cases m <;> simp [RetentionMode.withdrawIds]

/-- Entries that a write passes over stay, and so does the note of a save in flight. -/
theorem State.writeEntries_none (s : State) : s.writeEntries (fun _ => none) = s := by
  have htable : s.table.map (markedBy (fun _ => none)) = s.table := List.map_id s.table
  simp only [State.writeEntries, htable, Option.isSome_none, Bool.and_false, List.any_eq_false.mpr,
    Bool.false_eq_true, not_false_eq_true, implies_true, RetentionMode.withdrawIds_none]

/-- A function of the entry of one id is, in an ascending table, its value on the entry found there. -/
theorem map_at_eq {t : List Entry} {id : Byte} {x : Entry} {f g : Entry → Entry} (ht : ascending t)
    (hx : findEntry id t = some x) (h : f x = g x) :
    t.map (fun e => if e.id = id then f e else e) = t.map (fun e => if e.id = id then g e else e) := by
  refine List.map_congr_left (fun e he => ?_)
  split
  · next hid => rw [eq_of_findEntry ht hx he hid, h]
  · rfl

theorem map_at_id (t : List Entry) (id : Byte) : t.map (fun e => if e.id = id then e else e) = t := by
  simp only [ite_self, List.map_id']

/-- A fold into an entry that takes a mark is the write of a REPORT item of value 1 (R55). -/
theorem State.foldEntry_marked {s : State} {id : Byte} {x : Entry} (ht : ascending s.table)
    (hx : findEntry id s.table = some x) (hstays : x.foldUnmarked = x) (hmarked : x.foldMarked = some (x.observe 1)) :
    s.foldEntry id = s.written id (Entry.observe 1) := by
  have htable : s.table.map (fun e => if e.id = id then e.foldUnmarked else e) = s.table :=
    (map_at_eq (g := fun e => e) ht hx hstays).trans (map_at_id s.table id)
  have hwrite : ∀ e ∈ s.table,
      (if e.id = id then e.foldMarked else none) = if e.id = id then some (e.observe 1) else none := by
    intro e he
    split
    · next hid => rw [eq_of_findEntry ht hx he hid, hmarked]
    · rfl
  unfold State.foldEntry
  rw [htable]
  exact (State.writeEntries_congr hwrite).trans (s.writeEntry_eq_written hx (Entry.observe 1))

/-- A fold into an entry that takes no mark moves that entry alone (R55). -/
theorem State.foldEntry_unmarked {s : State} {id : Byte} {x : Entry} {g : Entry → Entry} (ht : ascending s.table)
    (hx : findEntry id s.table = some x) (hg : x.foldUnmarked = g x) (hnone : x.foldUnmarked.foldMarked = none)
    (hid : x.foldUnmarked.id = x.id) :
    s.foldEntry id = { s with table := s.table.map (fun y => if y.id = id then g y else y) } := by
  obtain ⟨-, hxid⟩ := mem_of_findEntry hx
  unfold State.foldEntry
  rw [map_at_eq ht hx hg]
  refine (State.writeEntries_congr (g := fun _ => none) (fun e he => ?_)).trans (State.writeEntries_none _)
  obtain ⟨y, hy, rfl⟩ := List.mem_map.mp he
  by_cases hyid : y.id = id
  · rw [if_pos hyid, eq_of_findEntry ht hx hy hyid, ← hg, hid, hxid, if_pos rfl, hnone]
  · rw [if_neg hyid, if_neg hyid]

/-- A fold of a bound input: the entry is folded into, and the verdict recomputed with cause PULSE (R55, R57). -/
theorem exec_pulseFold_bound {s : State} {i : Fin 4} {id : Byte} {x : Entry} (hr : s.ready = true)
    (hf : 0 < (s.inputs[i]).folds) (hb : (s.inputs[i]).binding = some id) (hx : findEntry id s.table = some x) :
    exec (.pulseFold i) s = .next
      (((s.setInput i { s.inputs[i] with folds := (s.inputs[i]).folds - 1 }).foldEntry id).recompute (.pulse i)) := by
  show execPulseFold i s = _
  simp only [execPulseFold, hr, hf, hb, hx, decide_true, Bool.and_self, Option.isSome_some, if_true]

/-- A fold of an unbound input raises its unbound count (R56). -/
theorem exec_pulseFold_unbound {s : State} {i : Fin 4} (hr : s.ready = true) (hf : 0 < (s.inputs[i]).folds)
    (hb : (s.inputs[i]).binding = none) :
    exec (.pulseFold i) s = .next
      (s.setInput i { s.inputs[i] with folds := (s.inputs[i]).folds - 1, unbound := (s.inputs[i]).unbound + 1 }) := by
  show execPulseFold i s = _
  simp only [execPulseFold, hr, hf, hb, decide_true, Bool.and_self, if_true]

/-- Settles O34, by the fold into the one entry that the binding names. -/
theorem foldsCountUnderTheBindingOfTheMoment : Obligations.FoldsCountUnderTheBindingOfTheMoment := by
  unfold Obligations.FoldsCountUnderTheBindingOfTheMoment
  intro s i hr hf ht e taken
  have hfold : ∀ {id x u}, e.binding = some id → findEntry id s.table = some x → taken.foldEntry id = u →
      exec (.pulseFold i) s = .next (u.recompute (.pulse i)) :=
    fun hb hx hu => hu ▸ exec_pulseFold_bound hr hf hb hx
  refine ⟨fun id x total hb hx hk => ?_,
    fun id x a w n total tally last seen hb hx hk => ⟨fun hne => ?_, fun hmax => ?_⟩, exec_pulseFold_unbound hr hf⟩
  · exact hfold hb hx (State.foldEntry_marked ht hx (by simp only [Entry.foldUnmarked, hk])
      (by simp only [Entry.foldMarked, hk]))
  · exact hfold hb hx (State.foldEntry_marked ht hx (by simp only [Entry.foldUnmarked, hk, if_neg hne])
      (by simp only [Entry.foldMarked, hk, if_neg hne]))
  · subst hmax
    have hfolded : x.foldUnmarked = { x with kind := .rate a w n 0xFFFFFFFF (cappedSum tally 1) last seen } := by
      simp only [Entry.foldUnmarked, hk, if_true]
      exact Entry.observe_rate hk 1
    exact hfold hb hx (State.foldEntry_unmarked
      (g := fun y => { y with kind := .rate a w n 0xFFFFFFFF (cappedSum tally 1) last seen }) ht hx hfolded
      (by simp only [hfolded, Entry.foldMarked, if_true]) (by rw [hfolded]))

/-! ## Edges, returns and filter widths (R53, R54, R58) -/

theorem vec8_eq_ofFn {α : Type} (f : Fin 8 → α) : vec8 f = Vector.ofFn f := by
  refine Vector.ext (fun w hw => ?_)
  rw [Vector.getElem_ofFn]
  exact getElem_vec8 f ⟨w, hw⟩

theorem State.setInput_setInput (s : State) (i : Fin 4) (x y : EventInput) :
    (s.setInput i x).setInput i y = s.setInput i y := by
  simp only [State.setInput, Vector.set_set]

theorem State.setInput_same (s : State) (i : Fin 4) (x : EventInput) : (s.setInput i x).inputs[i] = x := by
  rw [State.setInput_inputs, vector_getElem_set, if_pos rfl]

/-- An input whose pulse is accepted, with one count for every counter of `s` that takes it (R54, log entry 19). -/
def State.pulseAccepted (s : State) (i : Fin 4) (e : EventInput) : EventInput :=
  { e with
    accepted := e.accepted + 1, judging := none, acceptedOnce := true, folds := e.folds + 1
    windowPulses := Vector.ofFn (fun w => e.windowPulses[w] +
      if s.counts w = true ∧ (s.windows[w]).running = true ∧ (s.windows[w]).source = .event i then 1 else 0) }

theorem State.acceptPulse_eq (s : State) (i : Fin 4) :
    s.acceptPulse i = s.setInput i (s.pulseAccepted i (s.inputs[i])) := by
  simp only [State.acceptPulse, State.pulseAccepted, vec8_eq_ofFn, State.takesPulse_iff]

/-- A pulse of an input just written. -/
theorem State.acceptPulse_setInput (s : State) (i : Fin 4) (x : EventInput) :
    (s.setInput i x).acceptPulse i = s.setInput i (s.pulseAccepted i x) := by
  rw [State.acceptPulse_eq, State.setInput_same, State.setInput_setInput]
  rfl

section LeadingEdge

variable {s : State} {i : Fin 4} {soon : Bool} (hl : (s.inputs[i]).level = !(s.inputs[i]).edge.active)

include hl

theorem edge_leads : ¬ (s.inputs[i]).level = (s.inputs[i]).edge.active := by
  rw [hl]
  exact Bool.not_ne_self _

/-- A leading edge that is not judged moves the pin alone: the part is not READY, or it comes too soon (R53, R58). -/
theorem exec_edge_unjudged
    (h : s.ready = false ∨ ((s.inputs[i]).judging = none ∧ soon = true ∧ (s.inputs[i]).acceptedOnce = true)) :
    exec (.eventInputEdge i soon) s =
      .next (s.setInput i { s.inputs[i] with level := (s.inputs[i]).edge.active }) := by
  refine congrArg Host.Outcome.next ((if_neg (edge_leads hl)).trans ?_)
  obtain hr | ⟨hj, hs, ho⟩ := h
  · exact if_pos (by rw [hr]; rfl)
  · simp only [hj, hs, ho, Option.isSome_none, Bool.false_eq_true, Bool.and_self, if_true, ite_self]

variable (hr : s.ready = true) (hj : (s.inputs[i]).judging = none) (hs : (soon && (s.inputs[i]).acceptedOnce) = false)

include hr hj hs

/-- With filter OFF a leading edge accepts its pulse at once (R53). -/
theorem exec_edge_off (hf : (s.inputs[i]).filter = .off) :
    exec (.eventInputEdge i soon) s =
      .next (s.setInput i (s.pulseAccepted i { s.inputs[i] with level := (s.inputs[i]).edge.active })) := by
  refine congrArg Host.Outcome.next ((if_neg (edge_leads hl)).trans ?_)
  simp only [hr, hj, hs, hf, Bool.not_true, Option.isSome_none, Bool.false_eq_true, if_false,
    State.acceptPulse_setInput]

/-- With a filter set a leading edge begins a judged pulse (R53). -/
theorem exec_edge_filtered (hf : (s.inputs[i]).filter ≠ .off) :
    exec (.eventInputEdge i soon) s =
      .next (s.setInput i { s.inputs[i] with
        level := (s.inputs[i]).edge.active
        judging := some ⟨(s.inputs[i]).filter, (s.inputs[i]).edge⟩ }) := by
  refine congrArg Host.Outcome.next ((if_neg (edge_leads hl)).trans ?_)
  simp only [hr, hj, hs, Bool.not_true, Option.isSome_none, Bool.false_eq_true, if_false]
  split
  · next hoff => exact absurd hoff hf
  all_goals rfl

end LeadingEdge

/-- The filter's width accepts the pulse being judged (R53, R54). -/
theorem exec_filterWidthElapsed {s : State} {i : Fin 4} {j : Judged} (hr : s.ready = true)
    (hj : (s.inputs[i]).judging = some j) :
    exec (.filterWidthElapsed i) s = .next (s.setInput i (s.pulseAccepted i (s.inputs[i]))) := by
  rw [← State.acceptPulse_eq]
  exact congrArg Host.Outcome.next (if_pos (by rw [hr, hj]; rfl))

/-- A return from the level of the leading edge: of the pulse being judged, or of the edge in force (R53). -/
theorem exec_eventInputReturn {s : State} {i : Fin 4} {lead : Edge}
    (hlead : lead = (match (s.inputs[i]).judging with | some j => j.edge | none => (s.inputs[i]).edge))
    (hl : (s.inputs[i]).level = lead.active) :
    exec (.eventInputReturn i) s = .next (s.setInput i { s.inputs[i] with level := !lead.active, judging := none }) := by
  subst hlead
  exact congrArg Host.Outcome.next (if_pos hl)

/-- A count of a counter that takes the input's pulses no longer is dropped (log entry 19). -/
theorem exec_windowEventDecrement_dropped {s : State} {i : Fin 4} {w : Fin 8} (hr : s.ready = true)
    (hp : 0 < (s.inputs[i]).windowPulses[w]) (ht : s.takesPulse i w = false) :
    exec (.windowEventDecrement ⟨i, w⟩) s = .next
      (s.setInput i { s.inputs[i] with
        windowPulses := (s.inputs[i]).windowPulses.set w ((s.inputs[i]).windowPulses[w] - 1) }) := by
  show execWindowEventDecrement ⟨i, w⟩ s = _
  simp only [execWindowEventDecrement, hr, hp, ht, decide_true, Bool.and_self, if_true, Bool.false_eq_true, if_false]

/-- Settles O33, edge by edge. -/
theorem edgesBeginAndEndPulses : Obligations.EdgesBeginAndEndPulses := by
  unfold Obligations.EdgesBeginAndEndPulses
  intro s i e lead pulses accept
  refine ⟨fun soon hr hl hj hs => ⟨exec_edge_off hl hr hj hs, exec_edge_filtered hl hr hj hs⟩,
    fun soon hl h => exec_edge_unjudged hl h, fun j hr hj => exec_filterWidthElapsed hr hj, fun j hj hl => ?_,
    fun hj hl => ?_, fun w hr hp hno => ?_⟩
  · have hl : e.level = j.edge.active := hl
    rw [exec_eventInputReturn (lead := j.edge) (by rw [hj]) hl, ← hl]
    rfl
  · rw [exec_eventInputReturn (lead := e.edge) (by rw [hj]) hl, ← hj]
    rfl
  · exact exec_windowEventDecrement_dropped hr hp (Bool.eq_false_iff.mpr (mt (s.takesPulse_iff i w).mp hno))

/-! ## Decrements (R65 to R68) -/

theorem Counter.decrement_down {c : Counter} (h : 2 ≤ c.count) (reload compare : Nat) :
    c.decrement reload compare =
      { c with count := c.count - 1, waiting := c.waiting ++ (if c.count - 1 = compare then [.early] else []) } := by
  refine (if_pos h).trans ?_
  split
  · rfl
  · rw [List.append_nil]

theorem Counter.decrement_close {c : Counter} (h : c.count = 1) (reload compare : Nat) :
    c.decrement reload compare = { c with count := reload, waiting := c.waiting ++ [.close] } :=
  if_neg (by omega)

/-- A decrement moves the count and the waiting requests alone. -/
theorem Counter.decrement_frame (c : Counter) (reload compare : Nat) :
    c.decrement reload compare =
      { c with count := (c.decrement reload compare).count, waiting := (c.decrement reload compare).waiting } := by
  unfold Counter.decrement
  split <;> rfl

/-- The effective values look at reloads, compares and joined flags alone (R65). -/
theorem State.effective_congr {s t : State} (hj : t.joined = s.joined)
    (h : ∀ v : Fin 8, (t.windows[v]).reload = (s.windows[v]).reload ∧ (t.windows[v]).compare = (s.windows[v]).compare)
    (w : Fin 8) : t.effectiveReload w = s.effectiveReload w ∧ t.effectiveCompare w = s.effectiveCompare w := by
  simp only [State.effectiveReload, State.effectiveCompare, hj, (h _).1, (h _).2, and_self]

/-- A counter written with its own reload and compare leaves every effective value. -/
theorem State.effective_setCounter (s : State) {v : Fin 8} {c : Counter} (hr : c.reload = (s.windows[v]).reload)
    (hc : c.compare = (s.windows[v]).compare) (w : Fin 8) :
    (s.setCounter v c).effectiveReload w = s.effectiveReload w ∧
      (s.setCounter v c).effectiveCompare w = s.effectiveCompare w := by
  refine State.effective_congr (s := s) (t := s.setCounter v c) rfl (fun x => ?_) w
  rw [State.setCounter_windows, vector_getElem_set]
  split
  · next hx => rw [hx]; exact ⟨hr, hc⟩
  · exact ⟨rfl, rfl⟩

/-- The decrement of a counter just written with its own reload and compare. -/
theorem State.decrement_setCounter (s : State) {w : Fin 8} {c : Counter} (hr : c.reload = (s.windows[w]).reload)
    (hc : c.compare = (s.windows[w]).compare) :
    (s.setCounter w c).decrement w =
      s.setCounter w (c.decrement (s.effectiveReload w) (s.effectiveCompare w)) := by
  obtain ⟨hreload, hcompare⟩ := s.effective_setCounter hr hc w
  have hsame : (s.setCounter w c).windows[w] = c := by rw [State.setCounter_windows, vector_getElem_set, if_pos rfl]
  rw [State.decrement, hreload, hcompare, hsame]
  simp only [State.setCounter, Vector.set_set]

/-- A RUNNING TICK counter whose phase stands at its divider is decremented, its phase back at 0 (R66, log entry 9). -/
theorem exec_windowTickDecrement {s : State} {w : Fin 8} {d : Divider} (hr : s.ready = true) (hc : s.counts w = true)
    (hrun : (s.windows[w]).running = true) (hsrc : (s.windows[w]).source = .tick d)
    (hphase : (s.windows[w]).phase = d.ticks) :
    exec (.windowTickDecrement w) s = .next (s.setCounter w
      (Counter.decrement { s.windows[w] with phase := 0 } (s.effectiveReload w) (s.effectiveCompare w))) := by
  rw [← State.decrement_setCounter (c := { s.windows[w] with phase := 0 }) s rfl rfl]
  show execWindowTickDecrement w s = _
  simp only [execWindowTickDecrement, hr, hc, hrun, hsrc, hphase, Nat.le_refl, decide_true, Bool.and_self, if_true,
    Nat.sub_self]

/-- A count of an input's pulses is taken at the counter it was kept for (R54, R67). -/
theorem exec_windowEventDecrement {s : State} {i : Fin 4} {w : Fin 8} (hr : s.ready = true)
    (hp : 0 < (s.inputs[i]).windowPulses[w]) (ht : s.takesPulse i w = true) :
    exec (.windowEventDecrement ⟨i, w⟩) s = .next
      ((s.setInput i { s.inputs[i] with
        windowPulses := (s.inputs[i]).windowPulses.set w ((s.inputs[i]).windowPulses[w] - 1) }).setCounter w
        ((s.windows[w]).decrement (s.effectiveReload w) (s.effectiveCompare w))) := by
  show execWindowEventDecrement ⟨i, w⟩ s = _
  simp only [execWindowEventDecrement, hr, hp, ht, decide_true, Bool.and_self, if_true]
  rfl

/-- Settles O35: one decrement, then where it happens; of two counters at one pulse each is decremented once, the other's
effective values and count of the pulse staying. -/
theorem decrementsCountDownOrClose : Obligations.DecrementsCountDownOrClose := by
  unfold Obligations.DecrementsCountDownOrClose
  refine ⟨fun c reload compare => ⟨fun h => c.decrement_down h _ _, fun h => c.decrement_close h _ _⟩,
    fun s w d hr hc hrun hsrc hphase => exec_windowTickDecrement hr hc hrun hsrc hphase,
    fun s i w hr hc hrun hsrc hp => exec_windowEventDecrement hr hp ((s.takesPulse_iff i w).mpr ⟨hc, hrun, hsrc⟩),
    fun s i v w hr hvw h => ?_⟩
  obtain ⟨hcv, hrunv, hsrcv, hpv⟩ := h v (.inl rfl)
  obtain ⟨hcw, hrunw, hsrcw, hpw⟩ := h w (.inr rfl)
  have hfirst := exec_windowEventDecrement hr hpv ((s.takesPulse_iff i v).mpr ⟨hcv, hrunv, hsrcv⟩)
  generalize ht : State.setCounter _ v _ = t at hfirst
  have hready : t.ready = true := by rw [← ht]; exact hr
  have hcount : t.counts w = true := by rw [← ht]; exact hcw
  have hwindows : ∀ x : Fin 8, t.windows[x] =
      if x = v then (s.windows[v]).decrement (s.effectiveReload v) (s.effectiveCompare v) else s.windows[x] := by
    intro x
    rw [← ht, State.setCounter_windows]
    exact vector_getElem_set _ _ _ _
  have hpulses : ∀ x : Fin 8, (t.inputs[i]).windowPulses[x] =
      if x = v then (s.inputs[i]).windowPulses[v] - 1 else (s.inputs[i]).windowPulses[x] := by
    intro x
    rw [← ht, State.setCounter_inputs, State.setInput_same]
    exact vector_getElem_set _ _ _ _
  have hw : t.windows[w] = s.windows[w] := (hwindows w).trans (if_neg hvw.symm)
  obtain ⟨hreload, hcompare⟩ := State.effective_congr (s := s) (t := t) (by rw [← ht]; rfl) (fun x => by
    rw [hwindows]
    split
    · next hx => rw [hx, Counter.decrement_frame]; exact ⟨rfl, rfl⟩
    · exact ⟨rfl, rfl⟩) w
  have hsecond := exec_windowEventDecrement (s := t) (i := i) (w := w) hready
    (by rw [hpulses, if_neg hvw.symm]; exact hpw)
    ((t.takesPulse_iff i w).mpr ⟨hcount, by rw [hw]; exact hrunw, by rw [hw]; exact hsrcw⟩)
  refine ⟨t, _, hfirst, hsecond, ?_, ?_, ?_, ?_⟩
  · rw [State.setCounter_windows, vector_getElem_set, if_neg hvw, State.setInput_windows, hwindows, if_pos rfl]
  · rw [State.setCounter_windows, vector_getElem_set, if_pos rfl, hw, hreload, hcompare]
  · rw [State.setCounter_inputs, State.setInput_same, vector_getElem_set, if_neg hvw, hpulses, if_pos rfl]
  · rw [State.setCounter_inputs, State.setInput_same, vector_getElem_set, if_pos rfl, hpulses, if_neg hvw.symm]

end Sys2Proof.Machine
end

section
/-! PROOFS. READ_INPUT and READ_WINDOW (O18); FREEZE, UNFREEZE, SET_AUTOSAVE and BIND_INPUT (O39). -/

namespace Sys2Proof.Machine

/-! ## Numbers and codes as a block carries them (chapter 10) -/

theorem four?_ofNat (i : Fin 4) : four? (BitVec.ofNat 8 i.val).toNat = some i := by revert i; decide

theorem eight?_ofNat (w : Fin 8) : eight? (BitVec.ofNat 8 w.val).toNat = some w := by revert w; decide

theorem filterOf_toByte (f : Filter) : filterOf f.toByte = some f := by cases f <;> rfl

theorem edgeOf_toByte (e : Edge) : edgeOf e.toByte = some e := by cases e <;> rfl

/-- The two bytes of a 16-bit field are written as they were read. -/
theorem be16_word16 (hi lo : Byte) : be16 (word16 hi lo) = [hi, lo] := by
  have hhi := hi.isLt
  have hlo := lo.isLt
  have h1 : (word16 hi lo).extractLsb' 8 8 = hi := BitVec.eq_of_toNat_eq (by
    rw [BitVec.extractLsb'_toNat, word16_toNat, Nat.shiftRight_eq_div_pow]
    omega)
  have h0 : (word16 hi lo).extractLsb' 0 8 = lo := BitVec.eq_of_toNat_eq (by
    rw [BitVec.extractLsb'_toNat, word16_toNat, Nat.shiftRight_zero]
    omega)
  rw [be16, h1, h0]

/-- A joined value is written as its two halves, the high one first (R65). -/
theorem be32_joinedValue (hi lo : Word16) : be32 (BitVec.ofNat 32 (joinedValue hi lo)) = be16 hi ++ be16 lo := by
  have hhi := hi.isLt
  have hlo := lo.isLt
  have hbyte : ∀ (x : Word16) (m n : Nat),
      (hi.toNat * 65536 + lo.toNat) % 2 ^ 32 / 2 ^ m % 2 ^ 8 = x.toNat / 2 ^ n % 2 ^ 8 →
      (BitVec.ofNat 32 (joinedValue hi lo)).extractLsb' m 8 = x.extractLsb' n 8 := fun x m n h =>
    BitVec.eq_of_toNat_eq (by
      rw [BitVec.extractLsb'_toNat, BitVec.extractLsb'_toNat, Nat.shiftRight_eq_div_pow, Nat.shiftRight_eq_div_pow,
        BitVec.toNat_ofNat]
      exact h)
  rw [be32, hbyte hi 24 8 (by omega), hbyte hi 16 0 (by omega), hbyte lo 8 8 (by omega), hbyte lo 0 0 (by omega)]
  rfl

/-- A 16-bit value in a 32-bit field. -/
theorem be32_toNat (x : Word16) : be32 (BitVec.ofNat 32 x.toNat) = [0, 0] ++ be16 x := by
  have hzero : joinedValue 0 x = x.toNat := Nat.zero_add _
  rw [← hzero, be32_joinedValue]
  rfl

/-! ## READ_INPUT and READ_WINDOW (R62, R82) -/

/-- An entry is bound to the counter that its RATE kind names, and no other kind to any (R63). -/
theorem Entry.boundTo_iff (e : Entry) (w : Fin 8) :
    e.boundTo w = true ↔ ∃ a n total tally last seen, e.kind = .rate a w n total tally last seen := by
  constructor
  · intro h
    cases hk : e.kind with
    | count total => rw [Entry.boundTo_count hk] at h; cases h
    | level a r => rw [Entry.boundTo_level hk] at h; cases h
    | rate a v n total tally last seen =>
      rw [Entry.boundTo_rate hk, beq_iff_eq] at h
      exact ⟨a, n, total, tally, last, seen, by rw [h]⟩
  · rintro ⟨a, n, total, tally, last, seen, hk⟩
    rw [Entry.boundTo_rate hk, beq_self_eq_true]

/-- Settles O18: the two records from the state, the joined pair's values from both of its halves. -/
theorem readInputAndReadWindowAnswerTheirRecords : Obligations.ReadInputAndReadWindowAnswerTheirRecords := by
  unfold Obligations.ReadInputAndReadWindowAnswerTheirRecords
  refine ⟨fun s p i h => ?_, fun s p w h => ?_, ⟨rfl, rfl, fun d i => ⟨rfl, rfl, rfl⟩, rfl, rfl⟩, Entry.boundTo_iff⟩
  · exact congrArg Host.Outcome.next (exec_read (answer := readInputAnswer) h (four?_ofNat i) rfl)
  · intro joined shown lo hi
    refine congrArg Host.Outcome.next ((exec_read (answer := readWindowAnswer) h (eight?_ofNat w) rfl).trans
      (congrArg (s.answered p) ?_))
    cases hj : s.joined[pairOf w] with
    | false =>
      simp only [readWindowAnswer, State.effectiveReload, State.effectiveCompare, State.baseCounter, State.pairJoined,
        joined, shown, hj, Bool.false_eq_true, if_false, be32_toNat]
      rfl
    | true =>
      simp only [readWindowAnswer, State.effectiveReload, State.effectiveCompare, State.baseCounter, State.pairJoined,
        joined, shown, hj, if_true, be32_joinedValue]
      rfl

/-! ## FREEZE and UNFREEZE (R98, R109) -/

theorem parseLifetime_of_range {hi lo : Byte}
    (h : (hi ++ lo : Word16) = 0 ∨ (100 ≤ (hi ++ lo : Word16).toNat ∧ (hi ++ lo : Word16).toNat ≤ 60000)) :
    parseLifetime [hi, lo] = some (hi ++ lo) := if_pos h

theorem applyFreeze_frozen {s : State} (hf : s.frozen = true) (l : Word16) :
    applyFreeze l s = (s, ⟨.frozen, be16 s.lifetime⟩) := if_pos hf

theorem applyFreeze_unfrozen {s : State} (hf : s.frozen = false) (l : Word16) :
    applyFreeze l s = (State.settingsWritten { s with frozen := true, lifetime := if l = 0 then 5000 else l },
      ⟨.ok, be16 (if l = 0 then 5000 else l)⟩) := if_neg (by rw [hf]; exact Bool.false_ne_true)

/-! ## SET_AUTOSAVE (R133) -/

/-- A two-code field is read as whether it is 01h, and written back as it was. -/
theorem flagOf_of_range {x : Byte} (h : x.toNat ≤ 1) :
    flagOf x = some (decide (x = 1)) ∧ flagByte (decide (x = 1)) = x := by
  have hx : x = 0 ∨ x = 1 := (by omega : x.toNat = 0 ∨ x.toNat = 1).imp BitVec.eq_of_toNat_eq BitVec.eq_of_toNat_eq
  obtain rfl | rfl := hx <;> exact ⟨rfl, rfl⟩

theorem parseAutosave_of_range {worsen i1 i0 : Byte} (hw : worsen.toNat ≤ 1) (hi : (i1 ++ i0 : Word16).toNat ≤ 1440) :
    parseAutosave [worsen, i1, i0] = some (decide (worsen = 1), i1 ++ i0) := by
  simp only [parseAutosave, (flagOf_of_range hw).1]
  exact if_pos hi

/-! ## BIND_INPUT (R59, R60) -/

theorem parseBind_of_codes (i : Fin 4) {id : Byte} (h : id.toNat ≤ 254) (f : Filter) (g : Edge) :
    parseBind [BitVec.ofNat 8 i.val, id, f.toByte, g.toByte] = some ⟨i, if id = 0 then none else some id, f, g⟩ := by
  simp only [parseBind, four?_ofNat, filterOf_toByte, edgeOf_toByte]
  exact if_pos h

section

variable {x : BindParams} {id : Byte} {s : State}

theorem applyBind_unbinds (hx : x.binding = none) : applyBind x s = (s.bind x, ⟨.ok, [byteOf x.input]⟩) := by
  simp only [applyBind, hx]

theorem applyBind_absent (hx : x.binding = some id) (he : findEntry id s.table = none) :
    applyBind x s = (s, refuse .noEntry [id]) := by
  simp only [applyBind, hx, he]

variable {e : Entry} (hx : x.binding = some id) (he : findEntry id s.table = some e)

include hx he

theorem applyBind_level (hk : e.kind.isLevel = true) : applyBind x s = (s, refuse .badKind [id]) := by
  cases hkind : e.kind with
  | count total => rw [hkind] at hk; cases hk
  | rate a w n total tally last seen => rw [hkind] at hk; cases hk
  | level a r => simp only [applyBind, hx, he, hkind]

theorem applyBind_binds (hk : e.kind.isLevel = false) : applyBind x s = (s.bind x, ⟨.ok, [byteOf x.input]⟩) := by
  cases hkind : e.kind with
  | count total => simp only [applyBind, hx, he, hkind]
  | rate a w n total tally last seen => simp only [applyBind, hx, he, hkind]
  | level a r => rw [hkind] at hk; cases hk

end

theorem State.blind_bind (x : BindParams) : State.Blind (fun s => s.bind x) := fun _ _ _ => rfl

/-! ## The four commands at their grant -/

/-- A granted FREEZE whose lifetime is in range (R98). -/
theorem exec_freeze {s : State} {p : Port} {hi lo : Byte} (h : s.Granted p 0x50 [hi, lo])
    (hrange : (hi ++ lo : Word16) = 0 ∨ (100 ≤ (hi ++ lo : Word16).toNat ∧ (hi ++ lo : Word16).toNat ≤ 60000)) :
    let lifetime : Word16 := if (hi ++ lo : Word16) = 0 then 5000 else hi ++ lo
    (s.frozen = true → exec (.freeze p) s = .next (s.answered p ⟨.frozen, be16 s.lifetime⟩)) ∧
    (s.frozen = false → exec (.freeze p) s = .next
      ((State.settingsWritten { s with frozen := true, lifetime := lifetime }).answered p ⟨.ok, be16 lifetime⟩)) := by
  intro lifetime
  have hrequest : requestFreeze p [hi, lo] (s.grant p) = applyFreeze (hi ++ lo) (s.grant p) :=
    State.direct_ok _ _ _ _ (parseLifetime_of_range hrange)
  refine ⟨fun hf => ?_, fun hf => ?_⟩
  · exact congrArg Host.Outcome.next (State.takeCommand_answer (test := fun y => y == 0x50) h rfl
      (hrequest.trans (applyFreeze_frozen (s := s.grant p) hf _)))
  · exact congrArg Host.Outcome.next (State.takeCommand_effect (test := fun y => y == 0x50)
      (f := fun t => State.settingsWritten { t with frozen := true, lifetime := lifetime }) h rfl (fun _ _ _ => rfl)
      (hrequest.trans (applyFreeze_unfrozen (s := s.grant p) hf _)))

/-- A granted SET_AUTOSAVE on an unfrozen table (R133). -/
theorem exec_setAutosave {s : State} {p : Port} {worsen i1 i0 : Byte} (h : s.Granted p 0x61 [worsen, i1, i0])
    (hf : s.frozen = false) (hw : worsen.toNat ≤ 1) (hi : (i1 ++ i0 : Word16).toNat ≤ 1440) :
    exec (.setAutosave p) s = .next
      ((State.settingsWritten
        { s with
          autosaveOnWorsen := decide (worsen = 1)
          autosaveInterval := i1 ++ i0
          intervalTimer := (i1 ++ i0 : Word16).toNat * 60000 }).answered p ⟨.ok, [worsen, i1, i0]⟩) := by
  have hanswer : [flagByte (decide (worsen = 1))] ++ be16 (i1 ++ i0) = [worsen, i1, i0] := by
    rw [(flagOf_of_range hw).2]
    exact congrArg (worsen :: ·) (be16_word16 i1 i0)
  rw [← hanswer]
  exact congrArg Host.Outcome.next (takeCommand_applied
    (f := fun t => (State.reloadTimer
      { t with autosaveOnWorsen := decide (worsen = 1), autosaveInterval := i1 ++ i0 }).markSettings)
    h hf (parseAutosave_of_range hw hi) (fun _ _ _ => rfl) rfl)

section

variable {s : State} {p : Port} {i : Fin 4} {id : Byte} {f : Filter} {g : Edge}
  (h : s.Granted p 0x40 [BitVec.ofNat 8 i.val, id, f.toByte, g.toByte]) (hf : s.frozen = false) (hid : id.toNat ≤ 254)

include h hf hid

/-- A granted BIND_INPUT on an unfrozen table that its state checks let pass (R59, R60). -/
theorem exec_bindInput_ok {b : Option Byte} (hb : (if id = 0 then none else some id) = b)
    (hok : applyBind ⟨i, b, f, g⟩ (s.grant p) = ((s.grant p).bind ⟨i, b, f, g⟩, ⟨.ok, [byteOf i]⟩)) :
    exec (.bindInput p) s = .next
      ((State.settingsWritten
        { s with inputs := s.inputs.set i { s.inputs[i] with binding := b, filter := f, edge := g } }).answered p
        ⟨.ok, [BitVec.ofNat 8 i.val]⟩) := by
  subst hb
  exact congrArg Host.Outcome.next (takeCommand_applied h hf (parseBind_of_codes i hid f g) (State.blind_bind _) hok)

/-- A granted BIND_INPUT on an unfrozen table that its state checks refuse (R59). -/
theorem exec_bindInput_refused (h0 : id ≠ 0) {st : Status}
    (hno : applyBind ⟨i, some id, f, g⟩ (s.grant p) = (s.grant p, refuse st [id])) :
    exec (.bindInput p) s = .next (s.answered p ⟨st, [id]⟩) := by
  have hparse := parseBind_of_codes i hid f g
  rw [if_neg h0] at hparse
  exact congrArg Host.Outcome.next (takeCommand_refused h hf hparse hno)

end

/-- Settles O39, command by command. -/
theorem settingCommandsWriteTheirSettings : Obligations.SettingCommandsWriteTheirSettings := by
  unfold Obligations.SettingCommandsWriteTheirSettings
  refine ⟨⟨?_, fun s p h hf => ?_⟩, ?_, ?_⟩
  · intro s p hi lo h asked hrange
    exact exec_freeze h hrange
  · exact congrArg Host.Outcome.next (takeCommand_refused h hf rfl rfl)
  · exact fun s p worsen i1 i0 h hf hw hi => exec_setAutosave h hf hw hi
  · rintro s p i id _ _ f g h hf hid rfl rfl bound
    refine ⟨fun h0 => ?_, fun e h0 he hk => ?_, fun e h0 he hk => ?_, fun h0 he => ?_⟩
    · exact exec_bindInput_ok h hf hid (if_pos h0) (applyBind_unbinds rfl)
    · exact exec_bindInput_ok h hf hid (if_neg h0) (applyBind_binds (s := s.grant p) rfl he hk)
    · exact exec_bindInput_refused h hf hid h0 (applyBind_level (s := s.grant p) rfl he hk)
    · exact exec_bindInput_refused h hf hid h0 (applyBind_absent (s := s.grant p) rfl he)

end Sys2Proof.Machine
end

section
/-! PROOFS. Settings saved and loaded beside the same table (O14). -/

namespace Sys2Proof.Machine

/-! ## Codes written and read back (10.3) -/

theorem flagByte_eq_one (b : Bool) : flagByte b = 1 ↔ b = true := by cases b <;> decide

/-- A source is written with codes that are in range. -/
theorem Source.codes_inRange (src : Source) :
    (src.toByte = 0 ∧ src.selector.toNat ≤ 7) ∨ (src.toByte = 1 ∧ src.selector.toNat ≤ 3) := by
  cases src with
  | tick d => exact .inl ⟨rfl, by cases d <;> decide⟩
  | event i => exact .inr ⟨rfl, by revert i; decide⟩

theorem sourceOf_codes (src : Source) : sourceOf src.toByte src.selector = some src := by
  cases src with
  | tick d => cases d <;> rfl
  | event i => exact congrArg (Option.map Source.event) (four?_ofNat i)

/-- The codes of a source tell it. -/
theorem Source.eq_of_codes {x y : Source} (h : x.toByte = y.toByte) (h' : x.selector = y.selector) : x = y :=
  Option.some.inj (by rw [← sourceOf_codes x, h, h', sourceOf_codes])

/-! ## Bindings (R61) -/

theorem findEntry_of_mem {t : List Entry} {e : Entry} (ht : ascending t) (he : e ∈ t) : findEntry e.id t = some e := by
  cases hf : findEntry e.id t with
  | none => exact absurd rfl (findEntry_none hf e he)
  | some x => rw [eq_of_findEntry ht hf he rfl]

/-- A binding is loaded as it was saved: the table holds its entry, and none of id 0, by which no binding is written. -/
theorem loadBinding_inputRecordOf {s : State} (htable : s.TableInv) (hbinding : s.BindingInv) (i : Fin 4) :
    loadBinding (inputRecordOf (s.inputs[i])) s.table = (s.inputs[i]).binding := by
  obtain ⟨-, hascending, hok, -⟩ := htable
  cases hb : (s.inputs[i]).binding with
  | none =>
    have hcode : (inputRecordOf (s.inputs[i])).binding = 0 := by simp only [inputRecordOf, hb, Option.getD_none]
    refine Option.eq_none_iff_forall_ne_some.mpr (fun id hid => ?_)
    obtain ⟨rfl, z, hz, -⟩ := (loadBinding_iff _ _ _).mp hid
    obtain ⟨hmem, hzero⟩ := mem_of_findEntry hz
    obtain ⟨⟨hpositive, -⟩, -⟩ := hok z hmem
    rw [hzero, hcode] at hpositive
    exact absurd hpositive (by decide)
  | some id =>
    have hcode : (inputRecordOf (s.inputs[i])).binding = id := by simp only [inputRecordOf, hb, Option.getD_some]
    obtain ⟨e, he, rfl, hlevel⟩ := hbinding i id hb
    exact (loadBinding_iff _ _ _).mpr ⟨hcode.symm, e, findEntry_of_mem hascending he, hlevel⟩

/-! ## The settings section read back (R64, R97, R118) -/

section

variable {s u : State} (htable : s.TableInv) (hbinding : s.BindingInv) (hjoin : s.JoinInv) (hcounter : s.CounterInv)
  (hu : u.table = s.table)

include hjoin hu in
/-- No loaded RATE entry names the high counter of a joined pair, so every pair stays as it was (R83, R118). -/
theorem State.joined_loadSettings : (u.loadSettings (settingsRecordOf s)).joined = s.joined := by
  refine Vector.ext (fun k hk => ?_)
  have hload : (u.loadSettings (settingsRecordOf s)).joined[k] = loadJoined (settingsRecordOf s) u.table ⟨k, hk⟩ :=
    getElem_vec4 _ ⟨k, hk⟩
  have hsaved : (settingsRecordOf s).joined[(⟨k, hk⟩ : Fin 4)] = flagByte s.joined[k] := getElem_vec4 _ ⟨k, hk⟩
  rw [hload, Bool.eq_iff_iff, loadJoined_iff, hsaved, flagByte_eq_one, hu]
  exact and_iff_left_of_imp (hjoin ⟨k, hk⟩)

include hjoin hcounter hu in
/-- A counter's settings, and of one that counts its run state and its preset count (R64, R65). -/
theorem State.windows_loadSettings (w : Fin 8) :
    let t := u.loadSettings (settingsRecordOf s)
    (t.windows[w]).reload = (s.windows[w]).reload ∧ (t.windows[w]).compare = (s.windows[w]).compare ∧
    (t.windows[w]).source = (s.windows[w]).source ∧
    (s.counts w = true → (t.windows[w]).running = (s.windows[w]).running ∧
      (t.windows[w]).count = t.effectiveReload w) ∧
    (t.windows[w]).phase = 0 ∧ (t.windows[w]).waiting = [] := by
  intro t
  have hsaved : (settingsRecordOf s).counters[w] =
      counterRecordOf (s.windows[w]) (isHigh w && s.joined[pairOf w]) := getElem_vec8 _ w
  have hmarked : (settingsRecordOf s).joined[pairOf w] = flagByte s.joined[pairOf w] := getElem_vec4 _ _
  obtain ⟨hreload, hcompare, hphase, -, hwaiting, hcount, hrunning, hfits, -⟩ :=
    u.loadSettings_window (settingsRecordOf s) w
  rw [hsaved] at hreload hcompare hrunning hfits
  obtain ⟨hbyte, hselector⟩ := hfits (Source.codes_inRange _)
  obtain ⟨hne, -⟩ := hcounter w
  refine ⟨hreload.trans (if_neg hne), hcompare, Source.eq_of_codes hbyte hselector, fun hc => ⟨?_, ?_⟩, hphase, hwaiting⟩
  · have halone : (isHigh w && s.joined[pairOf w]) = false := by
      rw [Bool.and_comm]
      exact (Bool.not_eq_true' _).mp hc
    rw [Bool.eq_iff_iff, hrunning, ← isHigh_iff, hmarked, flagByte_eq_one, ← Bool.and_eq_true, halone]
    simp only [counterRecordOf, Bool.not_false, Bool.and_true, flagByte_eq_one, Bool.false_eq_true, not_false_eq_true,
      and_true]
  · refine hcount ?_
    rw [State.counts, State.pairJoined, State.joined_loadSettings hjoin hu]
    exact hc

include htable hbinding hu in
/-- An input's settings (R61). -/
theorem State.inputs_loadSettings (i : Fin 4) :
    let t := u.loadSettings (settingsRecordOf s)
    (t.inputs[i]).binding = (s.inputs[i]).binding ∧ (t.inputs[i]).filter = (s.inputs[i]).filter ∧
      (t.inputs[i]).edge = (s.inputs[i]).edge := by
  intro t
  have hload : t.inputs[i] = loadInput (u.inputs[i]) (inputRecordOf (s.inputs[i])) s.table := by
    rw [← hu]
    exact (getElem_vec4 _ i).trans (congrArg (fun x => loadInput (u.inputs[i]) x u.table) (getElem_vec4 _ i))
  rw [hload]
  refine ⟨loadBinding_inputRecordOf htable hbinding i, ?_, ?_⟩
  · exact congrArg (fun o => Option.getD o .off) (filterOf_toByte _)
  · exact congrArg (fun o => Option.getD o .rise) (edgeOf_toByte _)

end

/-- Settles O14, setting by setting. -/
theorem saveThenLoadRestoresTheSettings : Obligations.SaveThenLoadRestoresTheSettings := by
  unfold Obligations.SaveThenLoadRestoresTheSettings
  intro s u htable hbinding hjoin hcounter hlo hhi hinterval hu t
  have hflag : ∀ b, (flagByte b == 1) = b := fun b => by cases b <;> rfl
  have hjoined : t.joined = s.joined := State.joined_loadSettings hjoin hu
  have hwindows := State.windows_loadSettings hjoin hcounter hu
  refine ⟨hflag _, if_pos ⟨hlo, hhi⟩, hflag _, if_pos hinterval, rfl, hjoined, fun w => ?_,
    State.inputs_loadSettings htable hbinding hu⟩
  obtain ⟨heffective, -⟩ :=
    State.effective_congr (s := s) (t := t) hjoined (fun v => by
      obtain ⟨hreload, hcompare, -⟩ := hwindows v
      exact ⟨hreload, hcompare⟩) w
  rw [← heffective]
  exact hwindows w

end Sys2Proof.Machine
end

section
/-! PROOFS. Power-on, RST_N and loss of power (O53). -/

namespace Sys2Proof.Machine

/-- An input after a reset: its pin as it stood, all else at reset (R58, R61). -/
theorem State.restart_input (s : State) (array : PerImage Image) (i : Fin 4) :
    (s.restart array).inputs[i] = { EventInput.reset with level := (s.inputs[i]).level } := getElem_vec4 _ i

theorem State.restart_window (s : State) (array : PerImage Image) (w : Fin 8) :
    (s.restart array).windows[w] = Counter.reset := Vector.getElem_replicate _

theorem State.restart_proposal (s : State) (array : PerImage Image) (k : Fin 4) :
    (s.restart array).proposals[k] = none := Vector.getElem_replicate _

theorem State.restart_port (s : State) (array : PerImage Image) (p : Port) :
    (s.restart array).ports.get p = PortUnit.reset := by cases p <;> rfl

theorem State.restart_notice (s : State) (array : PerImage Image) (p : Port) :
    (s.restart array).notices.get p = Notice.reset := by cases p <;> rfl

theorem State.restart_imageInfo (s : State) (array : PerImage Image) (i : ImageId) :
    (s.restart array).imageInfo.get i = (array.get i).info := by cases i <;> rfl

/-- RST_N on a powered part restarts it (R163). -/
theorem exec_reset_rstN {s : State} (h : s.powered = true) (cut : CutPoint) (faults : List ArrayFault) :
    exec (.reset .rstN cut faults) s =
      .next (State.restart { s with rstAsserted := true } (failArray (s.cutSave cut) faults)) :=
  congrArg Host.Outcome.next (if_pos h)

/-- Settles O53: each of the three is a restart, after which at most the port units are marked. -/
theorem resetsBringEveryBlockToItsResetState : Obligations.ResetsBringEveryBlockToItsResetState := by
  unfold Obligations.ResetsBringEveryBlockToItsResetState
  intro s selected cut faults fresh
  have hfresh : ∀ (u : State) (array : PerImage Image) (units : PerPort PortUnit), u.inputs = s.inputs →
      u.pfwAsserted = s.pfwAsserted →
      (∀ p, (units.get p).slot = Slot.reset) → (∀ p, (units.get p).frameResult = .none) →
      fresh { u.restart array with ports := units } := by
    intro u array units hinputs hpfw hslot hresult
    refine ⟨fun p => ⟨hslot p, hresult p, u.restart_notice array p⟩, rfl, rfl, rfl, rfl, rfl, rfl, rfl, rfl,
      u.restart_proposal array, rfl, rfl, rfl, rfl, rfl, rfl, rfl, fun i => ?_, fun w => ?_, hpfw,
      u.restart_imageInfo array, rfl⟩
    · dsimp only
      rw [u.restart_input, hinputs]
      exact ⟨rfl, rfl, rfl, rfl, rfl, rfl, rfl⟩
    · dsimp only
      rw [u.restart_window]
      exact ⟨rfl, rfl⟩
  have hplain : ∀ (u : State) (array : PerImage Image), u.inputs = s.inputs → u.pfwAsserted = s.pfwAsserted →
      fresh (u.restart array) := fun u array hinputs hpfw =>
    hfresh u array (u.restart array).ports hinputs hpfw (fun p => by rw [u.restart_port]; rfl)
      (fun p => by rw [u.restart_port]; rfl)
  refine ⟨⟨_, rfl, hfresh { s with powered := true } _ _ rfl rfl (fun p => ?_) (fun p => ?_), rfl, fun p => ?_, rfl, rfl⟩,
    fun hp => ⟨_, exec_reset_rstN hp cut faults, hplain { s with rstAsserted := true } _ rfl rfl, hp, rfl, rfl⟩,
    ⟨_, rfl, hplain { s with powered := false } _ rfl rfl, rfl, rfl, rfl⟩⟩
  · rw [markOpenFrames_get, State.restart_port]
    rfl
  · rw [markOpenFrames_get, State.restart_port]
    rfl
  · exact congrArg PortUnit.ignoreFrame (markOpenFrames_get selected _ p)

end Sys2Proof.Machine
end

section
/-! PROOFS. What the window and setting commands and the decrements leave as they find it (O58). -/

namespace Sys2Proof.Machine

/-! ## Tallies -/

theorem Entry.zeroTally_zeroTally (e : Entry) : e.zeroTally.zeroTally = e.zeroTally := by
  cases hk : e.kind <;> simp only [Entry.zeroTally, hk]

/-- Zeroed tallies are all that `zeroTallies` moves (R77, R80). -/
theorem State.zeroTallies_table (s : State) (w : Fin 8) :
    (s.zeroTallies w).table.map Entry.zeroTally = s.table.map Entry.zeroTally := by
  show (s.table.map _).map Entry.zeroTally = _
  rw [List.map_map]
  refine List.map_congr_left (fun e _ => ?_)
  rw [Function.comp_apply]
  split
  · exact e.zeroTally_zeroTally
  · rfl

/-! ## What a window or setting command leaves -/

/-- `x` with every field that a window or setting command may move taken from `u`. -/
def State.withSettingFields (x u : State) : State :=
  { x with
    ports := u.ports, lastGranted := u.lastGranted, windows := u.windows, joined := u.joined, table := u.table,
    inputs := u.inputs, frozen := u.frozen, lifetime := u.lifetime, autosaveOnWorsen := u.autosaveOnWorsen,
    autosaveInterval := u.autosaveInterval, intervalTimer := u.intervalTimer, settingsUnsaved := u.settingsUnsaved,
    mode := u.mode, proposals := u.proposals, closingOrder := u.closingOrder, madeOrder := u.madeOrder,
    nextNumber := u.nextNumber }

/-- Every setting, counter and entry of `s` stands in `t`. -/
def State.SameSettings (s t : State) : Prop :=
  t.windows = s.windows ∧ t.table = s.table ∧ t.joined = s.joined ∧ t.inputs = s.inputs ∧
  t.settingsUnsaved = s.settingsUnsaved ∧ t.autosaveOnWorsen = s.autosaveOnWorsen ∧
  t.autosaveInterval = s.autosaveInterval ∧ t.intervalTimer = s.intervalTimer ∧ t.frozen = s.frozen ∧
  t.lifetime = s.lifetime

/-- The commands that leave every counter. -/
def settingCommands (p : Port) : List Instr := [.bindInput p, .setAutosave p, .freeze p, .unfreeze p]

/-- What a window or setting command `c` of port `p` leaves, but for the slots. -/
structure SettingOutcome (c : Instr) (p : Port) (s t : State) : Prop where
  frame : t = s.withSettingFields t
  tallies : t.table.map Entry.zeroTally = s.table.map Entry.zeroTally
  mode : t.mode = s.mode ∨ t.mode = s.mode.withdrawSettings
  table : c ≠ .joinPair p → c ≠ .presetWindow p → t.table = s.table
  joined : c ≠ .joinPair p → t.joined = s.joined
  inputs : c ≠ .bindInput p → t.inputs = s.inputs
  flag : c ≠ .freeze p → t.frozen = s.frozen ∧ t.lifetime = s.lifetime
  autosave : c ≠ .setAutosave p → t.autosaveOnWorsen = s.autosaveOnWorsen ∧ t.autosaveInterval = s.autosaveInterval ∧
    t.intervalTimer = s.intervalTimer
  windows : c ∈ settingCommands p → t.windows = s.windows
  mark : c = .presetWindow p → t.settingsUnsaved = s.settingsUnsaved
  frozen : s.frozen = true → s.SameSettings t
  proposals : s.frozen = false → t.proposals = s.proposals ∧ t.closingOrder = s.closingOrder ∧
    t.madeOrder = s.madeOrder ∧ t.nextNumber = s.nextNumber

theorem SettingOutcome.refl (c : Instr) (p : Port) (s : State) : SettingOutcome c p s s :=
  ⟨rfl, rfl, .inl rfl, fun _ _ => rfl, fun _ => rfl, fun _ => rfl, fun _ => ⟨rfl, rfl⟩, fun _ => ⟨rfl, rfl, rfl⟩,
    fun _ => rfl, fun _ => rfl, fun _ => ⟨rfl, rfl, rfl, rfl, rfl, rfl, rfl, rfl, rfl, rfl⟩,
    fun _ => ⟨rfl, rfl, rfl, rfl⟩⟩

theorem State.makeProposal_frame (s : State) (p : Port) (code : StructuralCode) (ps : List Byte) :
    ∃ slots closing made next, (s.makeProposal p code ps).1 =
      { s with proposals := slots, closingOrder := closing, madeOrder := made, nextNumber := next } := by
  unfold State.makeProposal
  split
  · exact ⟨s.proposals, s.closingOrder, s.madeOrder, s.nextNumber, rfl⟩
  · cases s
    exact ⟨_, _, _, _, rfl⟩

/-- On a frozen table a structural command moves the proposals alone (R99). -/
theorem SettingOutcome.of_proposal {c : Instr} {p : Port} {s : State} (hf : s.frozen = true) (code : StructuralCode)
    (ps : List Byte) : SettingOutcome c p s (s.makeProposal p code ps).1 := by
  obtain ⟨slots, closing, made, next, h⟩ := s.makeProposal_frame p code ps
  rw [h]
  exact ⟨rfl, rfl, .inl rfl, fun _ _ => rfl, fun _ => rfl, fun _ => rfl, fun _ => ⟨rfl, rfl⟩, fun _ => ⟨rfl, rfl, rfl⟩,
    fun _ => rfl, fun _ => rfl, fun _ => ⟨rfl, rfl, rfl, rfl, rfl, rfl, rfl, rfl, rfl, rfl⟩,
    fun hf' => absurd hf (Bool.eq_false_iff.mp hf')⟩

/-- The grant before a request and the answer after it move slots and the arbiter alone. -/
theorem SettingOutcome.granted {c : Instr} {p : Port} {s u : State} (h : SettingOutcome c p (s.grant p) u) (a : Answer) :
    SettingOutcome c p s (u.placeAnswer p a) := by
  have hframe : ∀ x, { u with ports := x } = s.withSettingFields { u with ports := x } := fun x =>
    congrArg (fun y : State => { y with ports := x }) h.frame
  rw [State.placeAnswer_ports]
  exact ⟨hframe _, h.tallies, h.mode, h.table, h.joined, h.inputs, h.flag, h.autosave, h.windows, h.mark, h.frozen,
    h.proposals⟩

theorem settingOutcome_structural {α : Type} {c : Instr} {p : Port} {s : State} {code : StructuralCode}
    {ident : List Byte → List Byte} {parse : List Byte → Option α} {apply : α → State → State × Answer}
    (ps : List Byte) (h : ∀ x, s.frozen = false → SettingOutcome c p s (apply x s).1) :
    SettingOutcome c p s (s.structural p code ident parse apply ps).1 := by
  unfold State.structural
  split
  · exact .refl c p s
  · split
    · next hf => exact .of_proposal hf code ps
    · next hf => exact h _ (Bool.eq_false_iff.mpr hf)

/-! ## The nine commands on an unfrozen table -/

section

variable {c : Instr} {p : Port} {s : State} (hf : s.frozen = false)

include hf

/-- Counters alone are written, with the settings mark: SET_WINDOW, START_WINDOW and STOP_WINDOW (R75, R79). -/
theorem SettingOutcome.of_windows (hc : c ∉ settingCommands p) (hpreset : c ≠ .presetWindow p) (ws : Vector Counter 8) :
    SettingOutcome c p s (State.markSettings { s with windows := ws }) :=
  ⟨rfl, rfl, .inr rfl, fun _ _ => rfl, fun _ => rfl, fun _ => rfl, fun _ => ⟨rfl, rfl⟩, fun _ => ⟨rfl, rfl, rfl⟩,
    fun h => absurd h hc, fun h => absurd h hpreset, fun hf' => absurd hf' (Bool.eq_false_iff.mp hf),
    fun _ => ⟨rfl, rfl, rfl, rfl⟩⟩

theorem settingOutcome_applySetWindow (x : SetWindowParams) :
    SettingOutcome (.setWindow p) p s (applySetWindow x s).1 := by
  unfold applySetWindow
  dsimp only
  split
  · exact .refl _ p s
  · exact .of_windows hf (by simp [settingCommands]) (by simp) _

/-- Counters, joined flags and tallies are written, with the settings mark: JOIN_PAIR (R77, R78). -/
theorem SettingOutcome.of_joined (w : Fin 8) (ws : Vector Counter 8) (js : Vector Bool 4) :
    SettingOutcome (.joinPair p) p s
      ((State.presetCounter { s with windows := ws, joined := js } w).zeroTallies w).markSettings :=
  ⟨rfl, s.zeroTallies_table w, .inr rfl, fun h => absurd rfl h, fun h => absurd rfl h, fun _ => rfl,
    fun _ => ⟨rfl, rfl⟩, fun _ => ⟨rfl, rfl, rfl⟩, fun h => absurd h (by simp [settingCommands]), fun h => (nomatch h),
    fun hf' => absurd hf' (Bool.eq_false_iff.mp hf), fun _ => ⟨rfl, rfl, rfl, rfl⟩⟩

theorem settingOutcome_applyJoinPair (x : Fin 4 × Bool) :
    SettingOutcome (.joinPair p) p s (applyJoinPair x s).1 := by
  unfold applyJoinPair
  dsimp only
  split
  · exact .refl _ p s
  · split
    · exact .refl _ p s
    · exact .of_joined hf (lowOf x.1) _ _

theorem settingOutcome_applyPresetWindow (w : Fin 8) :
    SettingOutcome (.presetWindow p) p s (applyPresetWindow w s).1 :=
  ⟨rfl, State.zeroTallies_table _ _, .inl rfl, fun _ h => absurd rfl h, fun _ => rfl, fun _ => rfl,
    fun _ => ⟨rfl, rfl⟩, fun _ => ⟨rfl, rfl, rfl⟩, fun h => absurd h (by simp [settingCommands]), fun _ => rfl,
    fun hf' => absurd hf' (Bool.eq_false_iff.mp hf), fun _ => ⟨rfl, rfl, rfl, rfl⟩⟩

theorem settingOutcome_applyBind (x : BindParams) : SettingOutcome (.bindInput p) p s (applyBind x s).1 := by
  have hbind : SettingOutcome (.bindInput p) p s (s.bind x) :=
    ⟨rfl, rfl, .inr rfl, fun _ _ => rfl, fun _ => rfl, fun h => absurd rfl h, fun _ => ⟨rfl, rfl⟩,
      fun _ => ⟨rfl, rfl, rfl⟩, fun _ => rfl, fun h => (nomatch h),
      fun hf' => absurd hf' (Bool.eq_false_iff.mp hf), fun _ => ⟨rfl, rfl, rfl, rfl⟩⟩
  unfold applyBind
  split
  · exact hbind
  · split
    · exact .refl _ p s
    · split
      · exact .refl _ p s
      · exact hbind
      · exact hbind

theorem settingOutcome_applySetAutosave (x : Bool × Word16) :
    SettingOutcome (.setAutosave p) p s (applySetAutosave x s).1 :=
  ⟨rfl, rfl, .inr rfl, fun _ _ => rfl, fun _ => rfl, fun _ => rfl, fun _ => ⟨rfl, rfl⟩, fun h => absurd rfl h,
    fun _ => rfl, fun h => (nomatch h), fun hf' => absurd hf' (Bool.eq_false_iff.mp hf),
    fun _ => ⟨rfl, rfl, rfl, rfl⟩⟩

omit hf in
/-- FREEZE writes on an unfrozen table alone (R98). -/
theorem settingOutcome_applyFreeze (l : Word16) : SettingOutcome (.freeze p) p s (applyFreeze l s).1 := by
  unfold applyFreeze
  split
  · exact .refl _ p s
  · next hf =>
    exact ⟨rfl, rfl, .inr rfl, fun _ _ => rfl, fun _ => rfl, fun _ => rfl, fun h => absurd rfl h,
      fun _ => ⟨rfl, rfl, rfl⟩, fun _ => rfl, fun h => (nomatch h), fun hf' => absurd hf' hf,
      fun _ => ⟨rfl, rfl, rfl, rfl⟩⟩

end

/-- The window and setting commands of port `p`. -/
def windowAndSettingCommands (p : Port) : List Instr :=
  [.setWindow p, .joinPair p, .startWindow p, .stopWindow p, .presetWindow p, .bindInput p, .setAutosave p, .freeze p,
    .unfreeze p]

theorem settingOutcome_commandRequest {c : Instr} {p : Port} (hc : c ∈ windowAndSettingCommands p) (ps : List Byte)
    (s : State) : SettingOutcome c p s (commandRequest c ps s).1 := by
  simp only [windowAndSettingCommands, List.mem_cons, List.not_mem_nil, or_false] at hc
  obtain rfl | rfl | rfl | rfl | rfl | rfl | rfl | rfl | rfl := hc
  · exact settingOutcome_structural ps (fun x hf => settingOutcome_applySetWindow hf x)
  · exact settingOutcome_structural ps (fun x hf => settingOutcome_applyJoinPair hf x)
  · exact settingOutcome_structural ps (fun _ hf => .of_windows hf (by simp [settingCommands]) (by simp) _)
  · exact settingOutcome_structural ps (fun _ hf => .of_windows hf (by simp [settingCommands]) (by simp) _)
  · exact settingOutcome_structural ps (fun w hf => settingOutcome_applyPresetWindow hf w)
  · exact settingOutcome_structural ps (fun x hf => settingOutcome_applyBind hf x)
  · exact settingOutcome_structural ps (fun x hf => settingOutcome_applySetAutosave hf x)
  · show SettingOutcome _ p s (requestFreeze p ps s).1
    unfold requestFreeze State.direct
    split
    · exact .refl _ p s
    · exact settingOutcome_applyFreeze _
  · exact settingOutcome_structural ps (fun _ _ => .refl _ p s)

/-- A window or setting command, taken or not: what it leaves, and its port's slot. -/
theorem settingOutcome_exec {c : Instr} {p : Port} {s t : State} (hc : c ∈ windowAndSettingCommands p)
    (h : exec c s = .next t) : SettingOutcome c p s t ∧ onlySlotState p s t := by
  have hcode : ∃ code, portAndCode c = some (p, code) ∧ code ≠ 0x60 := by
    simp only [windowAndSettingCommands, List.mem_cons, List.not_mem_nil, or_false] at hc
    obtain rfl | rfl | rfl | rfl | rfl | rfl | rfl | rfl | rfl := hc <;> exact ⟨_, rfl, by decide⟩
  obtain ⟨code, hpc, hne⟩ := hcode
  rw [exec_command hpc hne] at h
  cases h
  refine ⟨?_, onlySlotState_takeCommand (offSlots_commandRequest c)⟩
  unfold State.takeCommand
  split
  · exact (settingOutcome_commandRequest hc _ _).granted _
  · exact .refl c p s

/-! ## Decrements -/

theorem State.setCounter_windows_of_ne (s : State) {v w : Fin 8} (h : v ≠ w) (c : Counter) :
    (s.setCounter w c).windows[v] = s.windows[v] := by
  rw [State.setCounter_windows, vector_getElem_set, if_neg h]

theorem State.decrement_windows_of_ne (s : State) {v w : Fin 8} (h : v ≠ w) :
    (s.decrement w).windows[v] = s.windows[v] := s.setCounter_windows_of_ne h _

/-- A tick decrement moves its counter alone (R66). -/
theorem execWindowTickDecrement_frame {w : Fin 8} {s t : State} (h : execWindowTickDecrement w s = .next t) :
    t = { s with windows := t.windows } ∧ ∀ v : Fin 8, v ≠ w → t.windows[v] = s.windows[v] := by
  cases h
  split
  · split
    · exact ⟨rfl, fun v hv => (State.decrement_windows_of_ne _ hv).trans (s.setCounter_windows_of_ne hv _)⟩
    · exact ⟨rfl, fun _ _ => rfl⟩
  · exact ⟨rfl, fun _ _ => rfl⟩

/-- A pulse decrement moves its counter and the input's count for that counter alone (R67). -/
theorem execWindowEventDecrement_frame {i : Fin 4} {w : Fin 8} {s t : State}
    (h : execWindowEventDecrement ⟨i, w⟩ s = .next t) :
    t = { s with windows := t.windows, inputs := t.inputs } ∧
    (∀ j : Fin 4, j ≠ i → t.inputs[j] = s.inputs[j]) ∧
    t.inputs[i] = { s.inputs[i] with windowPulses := (t.inputs[i]).windowPulses } ∧
    ∀ v : Fin 8, v ≠ w → t.windows[v] = s.windows[v] ∧
      (t.inputs[i]).windowPulses[v] = (s.inputs[i]).windowPulses[v] := by
  have hinputs : ∀ (u : State) (n : Nat), u.inputs = s.inputs.set i
      { s.inputs[i] with windowPulses := (s.inputs[i]).windowPulses.set w n } →
      (∀ j : Fin 4, j ≠ i → u.inputs[j] = s.inputs[j]) ∧
      u.inputs[i] = { s.inputs[i] with windowPulses := (u.inputs[i]).windowPulses } ∧
      ∀ v : Fin 8, v ≠ w → (u.inputs[i]).windowPulses[v] = (s.inputs[i]).windowPulses[v] := by
    intro u n hu
    rw [hu]
    refine ⟨fun j hj => ?_, ?_, fun v hv => ?_⟩
    · rw [vector_getElem_set, if_neg hj]
    · rw [vector_getElem_set, if_pos rfl]
    · rw [vector_getElem_set, if_pos rfl, vector_getElem_set, if_neg hv]
  cases h
  dsimp only
  split
  · split
    · obtain ⟨hothers, hown, hpulses⟩ := hinputs (State.decrement (s.setInput i _) w) _ rfl
      exact ⟨rfl, hothers, hown, fun v hv => ⟨State.decrement_windows_of_ne _ hv, hpulses v hv⟩⟩
    · obtain ⟨hothers, hown, hpulses⟩ := hinputs (s.setInput i _) _ rfl
      exact ⟨rfl, hothers, hown, fun v hv => ⟨rfl, hpulses v hv⟩⟩
  · exact ⟨rfl, fun _ _ => rfl, rfl, fun _ _ => ⟨rfl, rfl⟩⟩

/-- Settles O58, by the fields that the parts of each command move. -/
theorem windowAndSettingCommandsLeaveTheRest : Obligations.WindowAndSettingCommandsLeaveTheRest := by
  unfold Obligations.WindowAndSettingCommandsLeaveTheRest
  refine ⟨fun c p s t h hc => ?_, fun w s t h => execWindowTickDecrement_frame h,
    fun i w s t h => execWindowEventDecrement_frame h⟩
  obtain ⟨ho, hslot⟩ := settingOutcome_exec hc h
  exact ⟨ho.frame, hslot, ho.tallies, ho.mode, ho.table, ho.joined, ho.inputs, ho.flag, ho.autosave, ho.windows, ho.mark,
    ho.frozen, ho.proposals⟩

end Sys2Proof.Machine
end

section
/-! PROOFS. What a counter and its pair count by, and the commands on them: SET_WINDOW, START_WINDOW, STOP_WINDOW and
PRESET_WINDOW (O37); JOIN_PAIR, and which counters count by which values (O38). -/

namespace Sys2Proof.Machine

/-! ## Counters and their pairs (R65) -/

theorem eq_lowOf_or_highOf (v : Fin 8) : v = lowOf (pairOf v) ∨ v = highOf (pairOf v) := by revert v; decide

theorem lowOf_ne_highOf (k : Fin 4) : lowOf k ≠ highOf k := by revert k; decide

@[simp] theorem pairOf_lowOf (k : Fin 4) : pairOf (lowOf k) = k := by revert k; decide

/-- A counter that does not count is the high one of a joined pair, whose count its low counter holds (R65). -/
theorem State.counts_eq_false_iff (s : State) (w : Fin 8) :
    s.counts w = false ↔ s.joined[pairOf w] = true ∧ w = highOf (pairOf w) := by
  simp [State.counts, State.pairJoined, isHigh_iff]

/-- A counter that counts holds its own count (R65). -/
theorem State.baseCounter_of_counts {s : State} {w : Fin 8} (h : s.counts w = true) : s.baseCounter w = w := by
  unfold State.baseCounter
  split
  · next hj => exact (eq_lowOf (by simpa [State.counts, hj] using h)).symm
  · rfl

theorem word16_pos {x : Word16} (h : x ≠ 0) : 1 ≤ x.toNat := Nat.pos_of_ne_zero (fun h0 => h (BitVec.eq_of_toNat_eq h0))

/-- The effective reload of a counter whose pair is not joined is its own (R65). -/
theorem State.effectiveReload_alone {s : State} {w : Fin 8} (h : s.joined[pairOf w] = false) :
    s.effectiveReload w = (s.windows[w]).reload.toNat := if_neg (by rw [h]; exact Bool.false_ne_true)

/-- The effective reload of both counters of a joined pair (R65). -/
theorem State.effectiveReload_joined {s : State} {w : Fin 8} (h : s.joined[pairOf w] = true) :
    s.effectiveReload w =
      joinedValue (s.windows[highOf (pairOf w)]).reload (s.windows[lowOf (pairOf w)]).reload := if_pos h

/-- The effective reload of either counter of a joined pair (R65). -/
theorem State.effectiveReload_pair {s : State} {w : Fin 8} {k : Fin 4} (hw : pairOf w = k) (hj : s.joined[k] = true) :
    s.effectiveReload w = joinedValue (s.windows[highOf k]).reload (s.windows[lowOf k]).reload := by
  subst hw
  exact State.effectiveReload_joined hj

/-- The counter that holds the count of `w` is preset to the reload of `w` or of its pair (R80). -/
theorem State.effectiveReload_baseCounter (s : State) (w : Fin 8) :
    s.effectiveReload (s.baseCounter w) =
      if s.joined[pairOf w] then joinedValue (s.windows[highOf (pairOf w)]).reload (s.windows[lowOf (pairOf w)]).reload
      else (s.windows[w]).reload.toNat := by
  cases hj : s.joined[pairOf w] with
  | true =>
    have hbase : s.baseCounter w = lowOf (pairOf w) := if_pos hj
    rw [hbase, if_pos rfl, State.effectiveReload_pair (pairOf_lowOf _) hj]
  | false =>
    have hbase : s.baseCounter w = w := if_neg (by simp [State.pairJoined, hj])
    rw [hbase, if_neg Bool.false_ne_true, State.effectiveReload_alone hj]

/-! ## Presets, and the tallies bound to a counter (R69, R77, R80) -/

theorem State.presetCounter_eq (s : State) (w : Fin 8) :
    s.presetCounter w = s.setCounter w ((s.windows[w]).presetTo (s.effectiveReload w)) := rfl

theorem State.setCounter_windows_same (s : State) (w : Fin 8) (c : Counter) : (s.setCounter w c).windows[w] = c := by
  rw [State.setCounter_windows, vector_getElem_set, if_pos rfl]

theorem State.presetCounter_setCounter (s : State) (w : Fin 8) (c : Counter) :
    (s.setCounter w c).presetCounter w =
      s.setCounter w (c.presetTo ((s.setCounter w c).effectiveReload w)) := by
  rw [State.presetCounter_eq, State.setCounter_windows_same]
  simp only [State.setCounter, Vector.set_set]

theorem State.zeroTallies_eq (s : State) (w : Fin 8) :
    s.zeroTallies w = { s with table := talliesZeroed w s.table } := by
  refine congrArg (fun t => { s with table := t }) (List.map_congr_left (fun e _ => ?_))
  cases hk : e.kind with
  | count total => simp [Entry.boundTo_count hk]
  | level a r => simp [Entry.boundTo_level hk]
  | rate a v n total tally last seen => simp only [Entry.boundTo_rate hk, beq_iff_eq, Entry.zeroTally, hk]

/-! ## SET_WINDOW (R74, R75) -/

theorem parseSetWindow_of_codes (w : Fin 8) (src : Source) {r1 r0 : Byte} (h : r1 ++ r0 ≠ (0 : Word16)) (c1 c0 : Byte) :
    parseSetWindow [BitVec.ofNat 8 w.val, src.toByte, src.selector, r1, r0, c1, c0] =
      some ⟨w, src, r1 ++ r0, c1 ++ c0⟩ := by
  simp only [parseSetWindow, eight?_ofNat, sourceOf_codes]
  exact if_pos h

/-- SET_WINDOW finds its counter STOPPED, and the low counter of a joined pair as well (R74). -/
def State.windowStopped (s : State) (w : Fin 8) : Prop :=
  (s.windows[w]).running = false ∧ (s.joined[pairOf w] = true → (s.windows[lowOf (pairOf w)]).running = false)

theorem State.windowStopped_iff (s : State) (w : Fin 8) :
    s.windowStopped w ↔ ((s.windows[s.baseCounter w]).running || (s.windows[w]).running) = false := by
  have hbase : ∀ v : Fin 8, s.baseCounter w = v → (s.windows[s.baseCounter w]).running = (s.windows[v]).running := by
    rintro v rfl; rfl
  unfold State.windowStopped
  cases hj : s.joined[pairOf w] with
  | true => rw [hbase (lowOf (pairOf w)) (if_pos hj)]; simp [and_comm]
  | false => rw [hbase w (if_neg (by simp [State.pairJoined, hj]))]; simp

section

variable {x : SetWindowParams} {s : State}

theorem applySetWindow_running (h : ¬ s.windowStopped x.index) :
    applySetWindow x s = (s, refuse .windowRunning [byteOf x.index]) := by
  rw [State.windowStopped_iff, Bool.not_eq_false] at h
  exact if_pos h

variable (h : s.windowStopped x.index)

include h

/-- SET_WINDOW on a STOPPED counter writes it, its source only if it counts, and presets the counter that holds its
count (R75). -/
theorem applySetWindow_stopped :
    applySetWindow x s =
      (((s.setCounter x.index
          (if s.counts x.index then
            { s.windows[x.index] with source := x.source, reload := x.reload, compare := x.compare }
          else { s.windows[x.index] with reload := x.reload, compare := x.compare })).presetCounter
          (s.baseCounter x.index)).markSettings, ⟨.ok, [byteOf x.index]⟩) := by
  rw [State.windowStopped_iff, ← Bool.not_eq_true] at h
  exact if_neg h

/-- A counter that counts is preset to what is its effective reload once it is written. -/
theorem applySetWindow_counts (hc : s.counts x.index = true) {c : Counter} {count : Nat}
    (hwritten : { s.windows[x.index] with source := x.source, reload := x.reload, compare := x.compare } = c)
    (hcount : (s.setCounter x.index c).effectiveReload x.index = count) :
    applySetWindow x s =
      (State.settingsWritten { s with windows := s.windows.set x.index (c.presetTo count) },
       ⟨.ok, [byteOf x.index]⟩) := by
  rw [applySetWindow_stopped h, State.baseCounter_of_counts hc, if_pos hc, hwritten, State.presetCounter_setCounter,
    hcount]
  rfl

theorem applySetWindow_alone (hj : s.joined[pairOf x.index] = false) :
    applySetWindow x s =
      (State.settingsWritten { s with
        windows := s.windows.set x.index
          (Counter.presetTo { s.windows[x.index] with source := x.source, reload := x.reload, compare := x.compare }
            x.reload.toNat) },
       ⟨.ok, [byteOf x.index]⟩) := by
  have hc : s.counts x.index = true := by simp [State.counts, State.pairJoined, hj]
  refine applySetWindow_counts h hc rfl ?_
  rw [State.effectiveReload_alone (s := s.setCounter _ _) hj, State.setCounter_windows_same]

theorem applySetWindow_low (hj : s.joined[pairOf x.index] = true) (hlow : x.index = lowOf (pairOf x.index)) :
    applySetWindow x s =
      (State.settingsWritten { s with
        windows := s.windows.set x.index
          (Counter.presetTo { s.windows[x.index] with source := x.source, reload := x.reload, compare := x.compare }
            (joinedValue (s.windows[highOf (pairOf x.index)]).reload x.reload)) },
       ⟨.ok, [byteOf x.index]⟩) := by
  have hne : highOf (pairOf x.index) ≠ x.index := fun hhigh => lowOf_ne_highOf _ (hlow.symm.trans hhigh.symm)
  have hc : s.counts x.index = true := by
    rw [← Bool.not_eq_false, State.counts_eq_false_iff]
    exact fun hidle => hne hidle.2.symm
  refine applySetWindow_counts h hc rfl ?_
  rw [State.effectiveReload_joined (s := s.setCounter _ _) hj, State.setCounter_windows_of_ne _ hne,
    State.setCounter_windows, vector_getElem_set, if_pos hlow.symm]

/-- On the high counter of a joined pair reload and compare alone are written, and the low counter is preset. -/
theorem applySetWindow_high (hj : s.joined[pairOf x.index] = true) (hhigh : x.index = highOf (pairOf x.index)) :
    applySetWindow x s =
      (State.settingsWritten { s with
        windows := (s.windows.set x.index { s.windows[x.index] with reload := x.reload, compare := x.compare }).set
          (lowOf (pairOf x.index))
          ((s.windows[lowOf (pairOf x.index)]).presetTo
            (joinedValue x.reload (s.windows[lowOf (pairOf x.index)]).reload)) },
       ⟨.ok, [byteOf x.index]⟩) := by
  have hne : lowOf (pairOf x.index) ≠ x.index := fun hlow => lowOf_ne_highOf _ (hlow.trans hhigh)
  have hc : s.counts x.index = false := (s.counts_eq_false_iff _).mpr ⟨hj, hhigh⟩
  have hbase : s.baseCounter x.index = lowOf (pairOf x.index) := if_pos hj
  rw [applySetWindow_stopped h, hbase, if_neg (by rw [hc]; exact Bool.false_ne_true), State.presetCounter_eq,
    State.effectiveReload_pair (s := s.setCounter _ _) (pairOf_lowOf _) hj, State.setCounter_windows_of_ne _ hne,
    State.setCounter_windows, vector_getElem_set, if_pos hhigh.symm]
  rfl

end

/-- A granted SET_WINDOW on an unfrozen table that finds its counter STOPPED. -/
theorem exec_setWindow {s : State} {p : Port} {w : Fin 8} {src : Source} {r1 r0 c1 c0 : Byte}
    (h : s.Granted p 0x30 [BitVec.ofNat 8 w.val, src.toByte, src.selector, r1, r0, c1, c0]) (hf : s.frozen = false)
    (hr : r1 ++ r0 ≠ (0 : Word16)) {ws : Vector Counter 8}
    (hset : applySetWindow ⟨w, src, r1 ++ r0, c1 ++ c0⟩ (s.grant p) =
      (State.settingsWritten { s.grant p with windows := ws }, ⟨.ok, [byteOf w]⟩)) :
    exec (.setWindow p) s =
      .next ((State.settingsWritten { s with windows := ws }).answered p ⟨.ok, [BitVec.ofNat 8 w.val]⟩) :=
  congrArg Host.Outcome.next (takeCommand_applied (f := fun t => State.settingsWritten { t with windows := ws }) h hf
    (parseSetWindow_of_codes w src hr c1 c0) (fun _ _ _ => rfl) hset)

/-! ## START_WINDOW, STOP_WINDOW and PRESET_WINDOW (R79, R80) -/

section

variable {s : State} {p : Port} {w : Fin 8} (hf : s.frozen = false)

include hf

/-- START_WINDOW and STOP_WINDOW differ in their codes and the run state they write (R79). -/
theorem takeCommand_setRunning {code : Byte} {sc : StructuralCode} (on : Bool)
    (h : s.Granted p code [BitVec.ofNat 8 w.val]) :
    s.takeCommand p (· == code) (fun ps t => t.structural p sc (identAt 0) parseCounter
        (fun v u => (u.setRunning v on, ⟨.ok, [byteOf v]⟩)) ps) =
      (State.settingsWritten { s with
        windows := s.windows.set (s.baseCounter w) { s.windows[s.baseCounter w] with running := on } }).answered p
        ⟨.ok, [BitVec.ofNat 8 w.val]⟩ :=
  takeCommand_applied
    (f := fun t => State.settingsWritten { t with
      windows := s.windows.set (s.baseCounter w) { s.windows[s.baseCounter w] with running := on } })
    h hf (eight?_ofNat w) (fun _ _ _ => rfl) rfl

theorem exec_presetWindow (h : s.Granted p 0x34 [BitVec.ofNat 8 w.val]) :
    exec (.presetWindow p) s = .next (State.answered { s with
      windows := s.windows.set (s.baseCounter w)
        ((s.windows[s.baseCounter w]).presetTo (s.effectiveReload (s.baseCounter w)))
      table := talliesZeroed (s.baseCounter w) s.table } p ⟨.ok, [BitVec.ofNat 8 w.val]⟩) := by
  refine congrArg Host.Outcome.next (takeCommand_applied
    (f := fun t => { t with
      windows := s.windows.set (s.baseCounter w)
        ((s.windows[s.baseCounter w]).presetTo (s.effectiveReload (s.baseCounter w)))
      table := talliesZeroed (s.baseCounter w) s.table })
    h hf (eight?_ofNat w) (fun _ _ _ => rfl) ?_)
  rw [applyPresetWindow, State.zeroTallies_eq]
  rfl

end

/-- Settles O37: SET_WINDOW by where its counter stands, then the three commands on a counter or its pair. -/
theorem windowsAreSetStartedStoppedAndPreset : Obligations.WindowsAreSetStartedStoppedAndPreset := by
  unfold Obligations.WindowsAreSetStartedStoppedAndPreset
  refine ⟨?_, ?_⟩
  · rintro s p w _ _ r1 r0 c1 c0 src h hf rfl rfl hr c lo hi joined stopped done
    refine ⟨fun hs hj => ?_, fun hs hj hlow => ?_, fun hs hj hhigh => ?_, fun hs => ?_⟩
    · exact exec_setWindow h hf hr (applySetWindow_alone (s := s.grant p) hs hj)
    · exact exec_setWindow h hf hr (applySetWindow_low (x := ⟨w, src, _, _⟩) (s := s.grant p) hs hj hlow)
    · exact exec_setWindow h hf hr (applySetWindow_high (x := ⟨w, src, _, _⟩) (s := s.grant p) hs hj hhigh)
    · exact congrArg Host.Outcome.next (takeCommand_refused h hf (parseSetWindow_of_codes w src hr c1 c0)
        (applySetWindow_running (s := s.grant p) hs))
  · intro s p w code h hf base c count answer
    refine ⟨?_, ?_, ?_⟩
    · rintro rfl
      exact congrArg Host.Outcome.next (takeCommand_setRunning hf true h)
    · rintro rfl
      exact congrArg Host.Outcome.next (takeCommand_setRunning hf false h)
    · rintro rfl
      rw [exec_presetWindow hf h, State.effectiveReload_baseCounter]
      rfl

/-! ## JOIN_PAIR (R76 to R78) -/

/-- Both counters of a pair STOPPED at their own reloads and its joined flag written: JOIN_PAIR before the preset of the
low counter. -/
def State.pairStopped (s : State) (k : Fin 4) (on : Bool) : State :=
  { s with
    windows := (s.windows.set (lowOf k) (s.windows[lowOf k]).stopped).set (highOf k) (s.windows[highOf k]).stopped
    joined := s.joined.set k on }

theorem State.pairStopped_joined (s : State) (k : Fin 4) (on : Bool) (j : Fin 4) :
    (s.pairStopped k on).joined[j] = if j = k then on else s.joined[j] := vector_getElem_set _ _ _ _

theorem State.pairStopped_windows (s : State) (k : Fin 4) (on : Bool) (v : Fin 8) :
    (s.pairStopped k on).windows[v] =
      if v = highOf k then (s.windows[highOf k]).stopped
      else if v = lowOf k then (s.windows[lowOf k]).stopped else s.windows[v] := by
  simp only [State.pairStopped, vector_getElem_set]

theorem State.pairStopped_reload (s : State) (k : Fin 4) (on : Bool) (v : Fin 8) :
    ((s.pairStopped k on).windows[v]).reload = (s.windows[v]).reload := by
  rw [State.pairStopped_windows]
  split
  · next hv => rw [hv]; rfl
  · split
    · next hv => rw [hv]; rfl
    · rfl

/-- JOIN_PAIR's refusals and its effect (R76 to R78). -/
theorem applyJoinPair_eq (k : Fin 4) (on : Bool) (s : State) :
    applyJoinPair (k, on) s =
      if (s.windows[lowOf k]).running || (s.windows[highOf k]).running then (s, refuse .windowRunning [byteOf k])
      else if on && s.hasBound (highOf k) then (s, refuse .windowBound [byteOf k])
      else ((((s.pairStopped k on).presetCounter (lowOf k)).zeroTallies (lowOf k)).markSettings, ⟨.ok, [byteOf k]⟩) := rfl

/-- A STOPPED counter stood alone is one preset to its own reload. -/
theorem Counter.stopped_eq {c : Counter} (h : c.running = false) : c.stopped = c.presetTo c.reload.toNat := by
  rw [Counter.stopped, ← h]; rfl

theorem State.hasBound_iff (s : State) (w : Fin 8) : s.hasBound w = true ↔ ∃ e ∈ s.table, e.boundTo w = true :=
  List.any_eq_true

theorem parseJoinPair_of_codes (k : Fin 4) {action : Byte} (h : action.toNat ≤ 1) :
    parseJoinPair [BitVec.ofNat 8 k.val, action] = some (k, decide (action = 1)) := by
  simp only [parseJoinPair, four?_ofNat, (flagOf_of_range h).1]

/-- The effective reload of the low counter once the joined flag is written (R65, R77, R78). -/
theorem State.pairStopped_effectiveReload (s : State) (k : Fin 4) (on : Bool) :
    (s.pairStopped k on).effectiveReload (lowOf k) =
      if on then joinedValue (s.windows[highOf k]).reload (s.windows[lowOf k]).reload
      else (s.windows[lowOf k]).reload.toNat := by
  have hjoined : (s.pairStopped k on).joined[k] = on := (s.pairStopped_joined k on k).trans (if_pos rfl)
  cases on with
  | true =>
    rw [State.effectiveReload_pair (pairOf_lowOf k) hjoined, State.pairStopped_reload, State.pairStopped_reload]
    rfl
  | false =>
    have halone := (s.pairStopped_joined k false (pairOf (lowOf k))).trans (if_pos (pairOf_lowOf k))
    rw [State.effectiveReload_alone halone, State.pairStopped_reload]
    rfl

/-- JOIN_PAIR on STOPPED counters presets the high one to its own reload and the low one to its effective one. -/
theorem State.pairStopped_presetCounter {s : State} {k : Fin 4} (hlo : (s.windows[lowOf k]).running = false)
    (hhi : (s.windows[highOf k]).running = false) (on : Bool) {count : Nat}
    (hcount : (s.pairStopped k on).effectiveReload (lowOf k) = count) :
    (s.pairStopped k on).presetCounter (lowOf k) =
      { s with
        joined := s.joined.set k on
        windows := (s.windows.set (lowOf k) ((s.windows[lowOf k]).presetTo count)).set (highOf k)
          ((s.windows[highOf k]).presetTo (s.windows[highOf k]).reload.toNat) } := by
  have hlow : (s.pairStopped k on).windows[lowOf k] = (s.windows[lowOf k]).stopped := by
    rw [State.pairStopped_windows, if_neg (lowOf_ne_highOf k), if_pos rfl]
  have hne : (highOf k).val ≠ (lowOf k).val := fun h => lowOf_ne_highOf k (Fin.ext h.symm)
  rw [State.presetCounter_eq, hcount, hlow, Counter.stopped_eq hlo]
  simp only [State.setCounter, State.pairStopped]
  rw [Vector.set_comm _ _ hne, Vector.set_set, Counter.stopped_eq hhi]
  rfl

section

variable {s : State} {p : Port} {k : Fin 4} {action : Byte}
  (h : s.Granted p 0x31 [BitVec.ofNat 8 k.val, action]) (hf : s.frozen = false) (ha : action.toNat ≤ 1)

include h hf ha

/-- A granted JOIN_PAIR on an unfrozen table that its state checks refuse (R76). -/
theorem exec_joinPair_refused {st : Status}
    (hno : applyJoinPair (k, decide (action = 1)) (s.grant p) = (s.grant p, refuse st [byteOf k])) :
    exec (.joinPair p) s = .next (s.answered p ⟨st, [BitVec.ofNat 8 k.val]⟩) :=
  congrArg Host.Outcome.next (takeCommand_refused h hf (parseJoinPair_of_codes k ha) hno)

/-- A granted JOIN_PAIR on an unfrozen table that its state checks let pass (R77, R78). -/
theorem exec_joinPair_done (hlo : (s.windows[lowOf k]).running = false) (hhi : (s.windows[highOf k]).running = false)
    {on : Bool} (hon : decide (action = 1) = on) (hbound : (on && s.hasBound (highOf k)) = false) {count : Nat}
    (hcount : (s.pairStopped k on).effectiveReload (lowOf k) = count) :
    exec (.joinPair p) s = .next ((State.settingsWritten
      { s with
        joined := s.joined.set k on
        windows := (s.windows.set (lowOf k) ((s.windows[lowOf k]).presetTo count)).set (highOf k)
          ((s.windows[highOf k]).presetTo (s.windows[highOf k]).reload.toNat)
        table := talliesZeroed (lowOf k) s.table }).answered p ⟨.ok, [BitVec.ofNat 8 k.val]⟩) := by
  have hparse := parseJoinPair_of_codes k ha
  rw [hon] at hparse
  refine congrArg Host.Outcome.next (takeCommand_applied
    (f := fun t => State.settingsWritten
      { t with
        joined := s.joined.set k on
        windows := (s.windows.set (lowOf k) ((s.windows[lowOf k]).presetTo count)).set (highOf k)
          ((s.windows[highOf k]).presetTo (s.windows[highOf k]).reload.toNat)
        table := talliesZeroed (lowOf k) s.table })
    h hf hparse (fun _ _ _ => rfl) ?_)
  have hrunning : ((s.windows[lowOf k]).running || (s.windows[highOf k]).running) = false := by rw [hlo, hhi]; rfl
  have hrun : ¬ (((s.grant p).windows[lowOf k]).running || ((s.grant p).windows[highOf k]).running) = true :=
    Bool.eq_false_iff.mp hrunning
  have hfree : ¬ (on && (s.grant p).hasBound (highOf k)) = true := Bool.eq_false_iff.mp hbound
  rw [applyJoinPair_eq, if_neg hrun, if_neg hfree, State.pairStopped_presetCounter (s := s.grant p) hlo hhi on hcount,
    State.zeroTallies_eq]
  rfl

end

/-- Settles O38: JOIN_PAIR by its state checks and its action, then the counters that count and their values. -/
theorem joinPairJoinsAndSplits : Obligations.JoinPairJoinsAndSplits := by
  unfold Obligations.JoinPairJoinsAndSplits
  refine ⟨?_, fun s w => ⟨s.counts_eq_false_iff w, fun hj => ⟨State.effectiveReload_joined hj, if_pos hj⟩,
    fun hj => ⟨State.effectiveReload_alone hj, if_neg (by rw [hj]; exact Bool.false_ne_true)⟩⟩⟩
  intro s p k action h hf ha lo hi stopped bound done
  have hstopped : (lo.running || hi.running) = false ↔ stopped := Bool.or_eq_false_iff
  have hbound : s.hasBound (highOf k) = true ↔ bound := s.hasBound_iff _
  refine ⟨fun hs => ?_, fun hs hon hb => ?_, fun ⟨hlo, hhi⟩ hon hb => ?_, fun ⟨hlo, hhi⟩ hoff => ?_⟩
  · rw [← hstopped, Bool.not_eq_false] at hs
    exact exec_joinPair_refused h hf ha (if_pos hs)
  · refine exec_joinPair_refused h hf ha ?_
    have hrun := Bool.eq_false_iff.mp (hstopped.mpr hs)
    have hjoin : (decide (action = 1) && (s.grant p).hasBound (highOf k)) = true := by
      rw [hon]; exact hbound.mpr hb
    exact (if_neg hrun).trans (if_pos hjoin)
  · have hfree : s.hasBound (highOf k) = false := Bool.eq_false_iff.mpr (fun h => hb (hbound.mp h))
    exact exec_joinPair_done h hf ha hlo hhi (decide_eq_true hon) hfree (s.pairStopped_effectiveReload k true)
  · have hon : decide (action = 1) = false := by rw [hoff]; rfl
    exact exec_joinPair_done h hf ha hlo hhi hon rfl (s.pairStopped_effectiveReload k false)

end Sys2Proof.Machine
end

section
/-! PROOFS. Counts between 1 and the effective reload through every step (O8): what leaves the counters and the joined
flags, what writes one counter under its own reload, and what presets after a reload or a joined flag has moved. -/

namespace Sys2Proof.Machine

/-! ## One counter within its effective reload (R63, R65, R67) -/

/-- What the counter invariant asks of one counter that counts or not and has this effective reload. -/
structure Counter.Within (c : Counter) (counts : Bool) (effective : Nat) : Prop where
  reload : c.reload ≠ 0
  count : counts = true → 1 ≤ c.count ∧ c.count ≤ effective
  phase : ∀ i, c.source = .event i → c.phase = 0

theorem State.counterInv_iff (s : State) :
    s.CounterInv ↔ ∀ w : Fin 8, (s.windows[w]).Within (s.counts w) (s.effectiveReload w) :=
  forall_congr' (fun _ => ⟨fun ⟨hreload, hcount, hphase⟩ => ⟨hreload, hcount, hphase⟩,
    fun ⟨hreload, hcount, hphase⟩ => ⟨hreload, hcount, hphase⟩⟩)

theorem Counter.Within.presetTo {c : Counter} {counts : Bool} {effective : Nat} (hreload : c.reload ≠ 0)
    (hpos : 1 ≤ effective) : (c.presetTo effective).Within counts effective :=
  ⟨hreload, fun _ => ⟨hpos, Nat.le_refl _⟩, fun _ _ => rfl⟩

/-- A decrement falls to 1 at the least, and from 1 goes back to the effective reload (R68). -/
theorem Counter.Within.decrement {c : Counter} {effective : Nat} (h : c.Within true effective) (compare : Nat) :
    (c.decrement effective compare).Within true effective := by
  obtain ⟨hpos, hle⟩ := h.count rfl
  by_cases h2 : 2 ≤ c.count
  · rw [Counter.decrement_down h2]
    exact ⟨h.reload, fun _ => ⟨by simp only; omega, by simp only; omega⟩, h.phase⟩
  · rw [Counter.decrement_close (by omega)]
    exact ⟨h.reload, fun _ => ⟨Nat.le_trans hpos hle, Nat.le_refl _⟩, h.phase⟩

/-- A tick advances the phase of a TICK counter alone (R66). -/
theorem Counter.Within.tick {c : Counter} {counts : Bool} {effective : Nat} (h : c.Within counts effective) :
    c.tick.Within counts effective := by
  rw [Counter.tick_eq]
  split
  · next htick =>
    refine ⟨h.reload, h.count, fun i hi => ?_⟩
    have hsource : c.source = .event i := hi
    exact absurd htick.2 (by simp [hsource, Source.toByte])
  · exact h

/-! ## Which fields the effective reload looks at -/

theorem State.effectiveReload_pos {s : State} (h : ∀ v : Fin 8, (s.windows[v]).reload ≠ 0) (w : Fin 8) :
    1 ≤ s.effectiveReload w := by
  cases hj : s.joined[pairOf w] with
  | true =>
    rw [State.effectiveReload_joined hj]
    exact Nat.le_trans (word16_pos (h _)) (Nat.le_add_left _ _)
  | false =>
    rw [State.effectiveReload_alone hj]
    exact word16_pos (h w)

/-- Whether a counter is within its reload depends on the counter itself, on the joined flag of its pair and, if it
counts for a joined pair, on the reload of the high counter (R65). -/
theorem Counter.Within.congr {s t : State} {v : Fin 8} (hj : t.joined[pairOf v] = s.joined[pairOf v])
    (hv : t.windows[v] = s.windows[v])
    (hpair : s.counts v = true → s.joined[pairOf v] = true →
      (t.windows[highOf (pairOf v)]).reload = (s.windows[highOf (pairOf v)]).reload)
    (h : (s.windows[v]).Within (s.counts v) (s.effectiveReload v)) :
    (t.windows[v]).Within (t.counts v) (t.effectiveReload v) := by
  have hcounts : t.counts v = s.counts v := by simp only [State.counts, State.pairJoined, hj]
  rw [hcounts, hv]
  refine ⟨h.reload, fun hc => ?_, h.phase⟩
  suffices heff : t.effectiveReload v = s.effectiveReload v by rw [heff]; exact h.count hc
  cases hjoined : s.joined[pairOf v] with
  | false => rw [State.effectiveReload_alone (hj.trans hjoined), State.effectiveReload_alone hjoined, hv]
  | true =>
    have hlow : lowOf (pairOf v) = v := (eq_lowOf (by simpa [State.counts, State.pairJoined, hjoined] using hc)).symm
    have hsame : ∀ u : Fin 8, u = v → t.windows[u] = s.windows[u] := fun u hu => by rw [hu]; exact hv
    rw [State.effectiveReload_joined (hj.trans hjoined), State.effectiveReload_joined hjoined, hpair hc hjoined,
      hsame _ hlow]

/-- Counters written with the reloads and compares they had keep every effective reload. -/
theorem State.CounterInv.of_windows {s t : State} (hj : t.joined = s.joined)
    (hsame : ∀ v : Fin 8, (t.windows[v]).reload = (s.windows[v]).reload ∧ (t.windows[v]).compare = (s.windows[v]).compare)
    (h : ∀ w : Fin 8, (t.windows[w]).Within (s.counts w) (s.effectiveReload w)) : t.CounterInv := by
  refine t.counterInv_iff.mpr (fun w => ?_)
  have hcounts : t.counts w = s.counts w := by simp only [State.counts, State.pairJoined, hj]
  rw [hcounts, (State.effective_congr hj hsame w).1]
  exact h w

/-- One counter written with the reload and compare it had, every other one being within its reload. -/
theorem State.counterInv_setCounter {s : State} {w : Fin 8} {c : Counter} (hr : c.reload = (s.windows[w]).reload)
    (hc : c.compare = (s.windows[w]).compare) (h : c.Within (s.counts w) (s.effectiveReload w))
    (hothers : ∀ v : Fin 8, v ≠ w → (s.windows[v]).Within (s.counts v) (s.effectiveReload v)) :
    (s.setCounter w c).CounterInv := by
  refine .of_windows (s := s) rfl (fun v => ?_) (fun v => ?_)
  · by_cases hv : v = w
    · rw [hv, State.setCounter_windows_same]; exact ⟨hr, hc⟩
    · rw [State.setCounter_windows_of_ne _ hv]; exact ⟨rfl, rfl⟩
  · by_cases hv : v = w
    · rw [hv, State.setCounter_windows_same]; exact h
    · rw [State.setCounter_windows_of_ne _ hv]; exact hothers v hv

theorem State.CounterInv.setCounter {s : State} (hs : s.CounterInv) {w : Fin 8} {c : Counter}
    (hr : c.reload = (s.windows[w]).reload) (hc : c.compare = (s.windows[w]).compare)
    (h : c.Within (s.counts w) (s.effectiveReload w)) : (s.setCounter w c).CounterInv :=
  State.counterInv_setCounter hr hc h (fun v _ => s.counterInv_iff.mp hs v)

theorem State.CounterInv.decrement {s : State} (hs : s.CounterInv) {w : Fin 8} (hw : s.counts w = true) :
    (s.decrement w).CounterInv := by
  have hwithin := s.counterInv_iff.mp hs w
  rw [hw] at hwithin
  refine hs.setCounter ?_ ?_ (hw ▸ hwithin.decrement _)
  · rw [Counter.decrement_frame]
  · rw [Counter.decrement_frame]

/-- A counter preset after it or its pair was written, every other counter being within its reload (R69, R75, R78). -/
theorem State.counterInv_presetCounter {s : State} {w : Fin 8} (hreload : (s.windows[w]).reload ≠ 0)
    (hothers : ∀ v : Fin 8, v ≠ w → (s.windows[v]).Within (s.counts v) (s.effectiveReload v)) :
    (s.presetCounter w).CounterInv := by
  have hreloads : ∀ v : Fin 8, (s.windows[v]).reload ≠ 0 := fun v => by
    by_cases hv : v = w
    · rw [hv]; exact hreload
    · exact (hothers v hv).reload
  exact State.counterInv_setCounter rfl rfl (.presetTo hreload (State.effectiveReload_pos hreloads w)) hothers

/-! ## Steps that leave the counters and the joined flags -/

/-- `t` holds the counters and the joined flags of `s`. -/
structure State.SameCounters (s t : State) : Prop where
  windows : t.windows = s.windows
  joined : t.joined = s.joined

theorem State.SameCounters.refl (s : State) : s.SameCounters s := ⟨rfl, rfl⟩

theorem State.SameCounters.trans {s t u : State} (h : s.SameCounters t) (h' : t.SameCounters u) : s.SameCounters u :=
  ⟨h'.windows.trans h.windows, h'.joined.trans h.joined⟩

theorem State.SameCounters.counterInv {s t : State} (h : s.SameCounters t) (hs : s.CounterInv) : t.CounterInv :=
  .of_windows h.joined (fun v => by rw [h.windows]; exact ⟨rfl, rfl⟩)
    (fun w => by rw [h.windows]; exact s.counterInv_iff.mp hs w)

/-- A step that is taken or not. -/
theorem State.sameCounters_ite {s t : State} {c : Prop} [Decidable c] (h : s.SameCounters t) :
    s.SameCounters (if c then t else s) := by
  split
  · exact h
  · exact .refl s

/-- A frame whose counters and joined flags are those of `s`. -/
theorem State.SameCounters.of_frame {s t u : State} (h : t = u) (hwindows : u.windows = s.windows)
    (hjoined : u.joined = s.joined) : s.SameCounters t := by
  rw [h]; exact ⟨hwindows, hjoined⟩

/-- Writes of entries and recomputations have no part in the counters. -/
theorem State.Regrades.sameCounters {s t : State} (h : s.Regrades t) : s.SameCounters t := .of_frame h.frame rfl rfl

theorem State.UnitMoves.sameCounters {s t : State} (h : s.UnitMoves t) : s.SameCounters t := .of_frame h rfl rfl

theorem State.SaveMoves.sameCounters {s t : State} (h : s.SaveMoves t) : s.SameCounters t := .of_frame h.frame rfl rfl

theorem State.sameCounters_timed {s t : State} (h : t = s.withTimedUnit t) : s.SameCounters t := .of_frame h rfl rfl

theorem State.sameCounters_placeAnswer (s : State) (p : Port) (a : Answer) : s.SameCounters (s.placeAnswer p a) := by
  rw [s.placeAnswer_ports p a]; exact ⟨rfl, rfl⟩

theorem State.sameCounters_grant (s : State) (p : Port) : s.SameCounters (s.grant p) := ⟨rfl, rfl⟩

theorem State.sameCounters_setPort (s : State) (p : Port) (u : PortUnit) : s.SameCounters (s.setPort p u) := ⟨rfl, rfl⟩

theorem State.sameCounters_setInput (s : State) (i : Fin 4) (e : EventInput) : s.SameCounters (s.setInput i e) :=
  ⟨rfl, rfl⟩

theorem State.sameCounters_makeProposal (s : State) (p : Port) (code : StructuralCode) (ps : List Byte) :
    s.SameCounters (s.makeProposal p code ps).1 := by
  obtain ⟨_, _, _, _, h⟩ := s.makeProposal_frame p code ps
  rw [h]; exact ⟨rfl, rfl⟩

theorem State.sameCounters_closeProposal (s : State) (k : Fin 4) (o : ProposalOutcome) :
    s.SameCounters (s.closeProposal k o) := by
  unfold State.closeProposal
  split <;> exact ⟨rfl, rfl⟩

theorem State.sameCounters_foldl {α : Type} (f : State → α → State) (h : ∀ (t : State) x, t.SameCounters (f t x))
    (l : List α) (s : State) : s.SameCounters (l.foldl f s) := by
  induction l generalizing s with
  | nil => exact .refl s
  | cons x l ih => exact (h s x).trans (ih (f s x))

theorem State.sameCounters_discardOpen (s : State) : s.SameCounters s.discardOpen := by
  refine State.sameCounters_foldl _ (fun t k => ?_) _ s
  split
  · exact t.sameCounters_closeProposal _ _
  · exact .refl t

theorem State.sameCounters_resetPort (s : State) (p : Port) : s.SameCounters (s.resetPort p) := by
  have hfree : ∀ t : State, t.SameCounters (t.freeProposalsOf p) := fun t => by
    refine State.sameCounters_foldl _ (fun u k => ?_) _ t
    split
    · split <;> exact ⟨rfl, rfl⟩
    · exact .refl u
  have hmode : s.SameCounters { s with mode := s.mode.removePort p } := ⟨rfl, rfl⟩
  have hslot : ∀ t : State, t.SameCounters ((t.setNotice p Notice.reset).setSlot p Slot.reset) := fun _ => ⟨rfl, rfl⟩
  exact (hmode.trans (hfree _)).trans (hslot _)

/-! ## The commands of 10.2 other than the window commands -/

theorem sameCounters_applyRetire (id : Byte) (s : State) : s.SameCounters (applyRetire id s).1 := by
  unfold applyRetire
  split
  · exact .refl s
  · have hdrop : s.SameCounters ((s.dropEntry id).unbindAll id).markSettings := ⟨rfl, rfl⟩
    exact hdrop.trans ((State.regrades_definitionChange _).trans (State.regrades_recompute _ _)).sameCounters

theorem sameCounters_applyBind (x : BindParams) (s : State) : s.SameCounters (applyBind x s).1 := by
  unfold applyBind
  split
  · exact ⟨rfl, rfl⟩
  · split
    · exact .refl s
    · split <;> exact ⟨rfl, rfl⟩

theorem sameCounters_applyFreeze (l : Word16) (s : State) : s.SameCounters (applyFreeze l s).1 := by
  unfold applyFreeze
  split <;> exact ⟨rfl, rfl⟩

theorem sameCounters_applyWithdraw (p : Port) (n : Word16) (s : State) : s.SameCounters (applyWithdraw p n s).1 := by
  unfold applyWithdraw
  split
  · exact .refl s
  · split
    · exact .refl s
    · split
      · exact .refl s
      · split
        · exact s.sameCounters_closeProposal _ _
        · exact .refl s

theorem sameCounters_applyReadProposal (p : Port) (n : Word16) (s : State) :
    s.SameCounters (applyReadProposal p n s).1 := by
  unfold applyReadProposal
  split
  · exact .refl s
  · split
    · exact .refl s
    · split
      · exact .refl s
      · dsimp only
        split <;> exact ⟨rfl, rfl⟩

theorem sameCounters_applyAck (p : Port) (seq : Word16) (s : State) : s.SameCounters (applyAck p seq s).1 := by
  unfold applyAck
  dsimp only
  split
  · exact .refl s
  · split <;> exact ⟨rfl, rfl⟩

theorem sameCounters_applyAudit (resume : Bool) (s : State) : s.SameCounters (applyAudit resume s).1 := by
  unfold applyAudit
  split
  case h_6 =>
    split
    · exact .refl s
    · split <;> exact ⟨rfl, rfl⟩
  all_goals exact .refl s

/-! ## The window commands (R75, R77 to R80) -/

/-- SET_WINDOW's range check shuts out a reload of 0 (R74). -/
theorem parseSetWindow_reload {ps : List Byte} {x : SetWindowParams} (h : parseSetWindow ps = some x) :
    x.reload ≠ 0 := by
  unfold parseSetWindow at h
  split at h
  · split at h
    · simp only [Option.ite_none_right_eq_some, Option.some.injEq] at h
      exact h.2 ▸ h.1
    · cases h
  · cases h

/-- The counter of a joined pair that counts holds the count of the other as well (R65). -/
theorem State.baseCounter_of_pair {s : State} {v w : Fin 8} (hv : s.counts v = true) (hj : s.joined[pairOf v] = true)
    (hpair : pairOf v = pairOf w) : s.baseCounter w = v := by
  have hw : s.baseCounter w = s.baseCounter v := by
    simp only [State.baseCounter, State.pairJoined, ← hpair, hj, if_true]
  exact hw.trans (State.baseCounter_of_counts hv)

/-- A counter written has no part in another one, unless that one holds its count (R65). -/
theorem State.CounterInv.within_setCounter {s : State} (hs : s.CounterInv) {v w : Fin 8} (hv : v ≠ w)
    (hbase : v ≠ s.baseCounter w) (c : Counter) :
    ((s.setCounter w c).windows[v]).Within ((s.setCounter w c).counts v) ((s.setCounter w c).effectiveReload v) := by
  refine Counter.Within.congr (s := s) rfl (s.setCounter_windows_of_ne hv c) (fun hcount hj => ?_)
    (s.counterInv_iff.mp hs v)
  rw [State.setCounter_windows_of_ne]
  intro hhigh
  exact hbase (State.baseCounter_of_pair hcount hj (by rw [← hhigh, pairOf_highOf])).symm

theorem counterInv_applySetWindow {x : SetWindowParams} (hx : x.reload ≠ 0) {s : State} (hs : s.CounterInv) :
    (applySetWindow x s).1.CounterInv := by
  by_cases hstop : s.windowStopped x.index
  · rw [applySetWindow_stopped hstop]
    refine State.SameCounters.counterInv (s := State.presetCounter _ _) ⟨rfl, rfl⟩ ?_
    cases hc : s.counts x.index with
    | true =>
      have hbase := State.baseCounter_of_counts hc
      rw [if_pos rfl, hbase]
      refine State.counterInv_presetCounter ?_ (fun v hv => hs.within_setCounter hv (by rwa [hbase]) _)
      rw [State.setCounter_windows_same]
      exact hx
    | false =>
      obtain ⟨hj, hhigh⟩ := (s.counts_eq_false_iff _).mp hc
      have hbase : s.baseCounter x.index = lowOf (pairOf x.index) := if_pos hj
      have hne : lowOf (pairOf x.index) ≠ x.index := fun hlow => lowOf_ne_highOf _ (hlow.trans hhigh)
      rw [if_neg Bool.false_ne_true, hbase]
      refine State.counterInv_presetCounter ?_ (fun v hv => ?_)
      · rw [State.setCounter_windows_of_ne _ hne]
        exact (s.counterInv_iff.mp hs _).reload
      · by_cases hvx : v = x.index
        · subst hvx
          rw [State.setCounter_windows_same]
          exact ⟨hx, fun hcount => absurd (hc.symm.trans hcount) Bool.false_ne_true,
            (s.counterInv_iff.mp hs x.index).phase⟩
        · exact hs.within_setCounter hvx (by rwa [hbase]) _
  · rw [applySetWindow_running hstop]
    exact hs

/-- The high counter of a pair just joined does not count, and that of one just split stands at its own reload (R78). -/
theorem State.pairStopped_within_high {s : State} {k : Fin 4} (h : (s.windows[highOf k]).reload ≠ 0) (on : Bool) :
    ((s.pairStopped k on).windows[highOf k]).Within ((s.pairStopped k on).counts (highOf k))
      ((s.pairStopped k on).effectiveReload (highOf k)) := by
  have hwindow : (s.pairStopped k on).windows[highOf k] = (s.windows[highOf k]).stopped :=
    (s.pairStopped_windows k on _).trans (if_pos rfl)
  have hjoined := (s.pairStopped_joined k on (pairOf (highOf k))).trans (if_pos (pairOf_highOf k))
  rw [hwindow]
  refine ⟨h, fun hcount => ?_, fun _ _ => rfl⟩
  cases on with
  | true =>
    have hidle := (State.counts_eq_false_iff _ _).mpr ⟨hjoined, by rw [pairOf_highOf]⟩
    exact absurd (hidle.symm.trans hcount) Bool.false_ne_true
  | false =>
    rw [State.effectiveReload_alone hjoined, State.pairStopped_reload]
    exact ⟨word16_pos h, Nat.le_refl _⟩

theorem counterInv_applyJoinPair (x : Fin 4 × Bool) {s : State} (hs : s.CounterInv) :
    (applyJoinPair x s).1.CounterInv := by
  obtain ⟨k, on⟩ := x
  have hold := s.counterInv_iff.mp hs
  have hpreset : ((s.pairStopped k on).presetCounter (lowOf k)).CounterInv := by
    refine State.counterInv_presetCounter ?_ (fun v hv => ?_)
    · rw [State.pairStopped_reload]
      exact (hold (lowOf k)).reload
    · by_cases hhigh : v = highOf k
      · rw [hhigh]
        exact State.pairStopped_within_high (hold (highOf k)).reload on
      · have hpair : pairOf v ≠ k := by
          rintro rfl
          exact (eq_lowOf_or_highOf v).elim hv hhigh
        refine Counter.Within.congr (s := s) ?_ ?_ (fun _ _ => s.pairStopped_reload k on _) (hold v)
        · rw [State.pairStopped_joined, if_neg hpair]
        · rw [State.pairStopped_windows, if_neg hhigh, if_neg hv]
  rw [applyJoinPair_eq]
  split
  · exact hs
  · split
    · exact hs
    · exact State.SameCounters.counterInv ⟨rfl, rfl⟩ hpreset

theorem counterInv_applyPresetWindow (w : Fin 8) {s : State} (hs : s.CounterInv) :
    (applyPresetWindow w s).1.CounterInv := by
  have hold := s.counterInv_iff.mp hs
  exact State.SameCounters.counterInv ⟨rfl, rfl⟩
    (State.counterInv_presetCounter (w := s.baseCounter w) (hold _).reload (fun v _ => hold v))

theorem State.CounterInv.setRunning {s : State} (hs : s.CounterInv) (w : Fin 8) (on : Bool) :
    (s.setRunning w on).CounterInv := by
  have hbase := s.counterInv_iff.mp hs (s.baseCounter w)
  exact State.SameCounters.counterInv ⟨rfl, rfl⟩
    (hs.setCounter (c := { s.windows[s.baseCounter w] with running := on }) rfl rfl
      ⟨hbase.reload, hbase.count, hbase.phase⟩)

/-! ## Every request -/

theorem State.CounterInv.direct {α : Type} {s : State} (hs : s.CounterInv) {ident : List Byte → List Byte}
    {parse : List Byte → Option α} {apply : α → State → State × Answer} (ps : List Byte)
    (h : ∀ x, (apply x s).1.CounterInv) : (s.direct ident parse apply ps).1.CounterInv := by
  unfold State.direct
  split
  · exact hs
  · exact h _

theorem State.CounterInv.structural {α : Type} {s : State} (hs : s.CounterInv) {p : Port} {code : StructuralCode}
    {ident : List Byte → List Byte} {parse : List Byte → Option α} {apply : α → State → State × Answer}
    {ps : List Byte} (h : ∀ x, parse ps = some x → (apply x s).1.CounterInv) :
    (s.structural p code ident parse apply ps).1.CounterInv := by
  unfold State.structural
  split
  · exact hs
  · next x hx =>
    split
    · exact (s.sameCounters_makeProposal p code ps).counterInv hs
    · exact h x hx

theorem State.CounterInv.applyHeldWith {α : Type} {s : State} (hs : s.CounterInv) {ident : List Byte → List Byte}
    {parse : List Byte → Option α} {apply : α → State → State × Answer} {ps : List Byte}
    (h : ∀ x, parse ps = some x → (apply x s).1.CounterInv) : (applyHeldWith ident parse apply ps s).1.CounterInv := by
  unfold Machine.applyHeldWith
  split
  · next x hx => exact h x hx
  · exact hs

/-- A held command keeps the counters as it would at its own grant (R104). -/
theorem counterInv_applyHeld (code : StructuralCode) (ps : List Byte) {s : State} (hs : s.CounterInv) :
    (applyHeld code ps s).1.CounterInv := by
  cases code with
  | define => exact hs.applyHeldWith (fun x _ => (regrades_applyDefine x s).sameCounters.counterInv hs)
  | retire => exact hs.applyHeldWith (fun id _ => (sameCounters_applyRetire id s).counterInv hs)
  | tune => exact hs.applyHeldWith (fun x _ => (regrades_applyTune x s).sameCounters.counterInv hs)
  | clear => exact hs.applyHeldWith (fun id _ => (regrades_applyClear id s).sameCounters.counterInv hs)
  | setWindow => exact hs.applyHeldWith (fun _ hx => counterInv_applySetWindow (parseSetWindow_reload hx) hs)
  | joinPair => exact hs.applyHeldWith (fun x _ => counterInv_applyJoinPair x hs)
  | startWindow => exact hs.applyHeldWith (fun w _ => hs.setRunning w true)
  | stopWindow => exact hs.applyHeldWith (fun w _ => hs.setRunning w false)
  | presetWindow => exact hs.applyHeldWith (fun w _ => counterInv_applyPresetWindow w hs)
  | bindInput => exact hs.applyHeldWith (fun x _ => (sameCounters_applyBind x s).counterInv hs)
  | setAutosave => exact hs.applyHeldWith (fun _ _ => State.SameCounters.counterInv ⟨rfl, rfl⟩ hs)
  | unfreeze => exact hs.applyHeldWith (fun _ _ => State.SameCounters.counterInv ⟨rfl, rfl⟩ hs)

theorem counterInv_applyConfirm (p : Port) (n : Word16) {s : State} (hs : s.CounterInv) :
    (applyConfirm p n s).1.CounterInv := by
  have hconfirm : ∀ k q, (s.confirmProposal k q).1.CounterInv := by
    intro k q
    have hclosed : ∀ o, ((applyHeld q.code q.params s).1.closeProposal k o).CounterInv :=
      fun o => (State.sameCounters_closeProposal _ k o).counterInv (counterInv_applyHeld q.code q.params hs)
    unfold State.confirmProposal
    dsimp only
    split
    · exact (State.sameCounters_discardOpen _).counterInv (hclosed _)
    · exact hclosed _
  unfold applyConfirm
  split
  · exact hs
  · split
    · exact hs
    · split
      · exact hs
      · split
        · exact hs
        · exact hconfirm _ _

/-- The request of a command of 10.2 keeps every counter within its reload. -/
theorem counterInv_commandRequest (c : Instr) (ps : List Byte) {s : State} (hs : s.CounterInv) :
    (commandRequest c ps s).1.CounterInv := by
  cases c with
  | define p => exact hs.structural (fun x _ => (regrades_applyDefine x s).sameCounters.counterInv hs)
  | retire p => exact hs.structural (fun id _ => (sameCounters_applyRetire id s).counterInv hs)
  | tune p => exact hs.structural (fun x _ => (regrades_applyTune x s).sameCounters.counterInv hs)
  | clear p => exact hs.structural (fun id _ => (regrades_applyClear id s).sameCounters.counterInv hs)
  | report p => exact hs.direct ps (fun items => (regrades_applyReport p items s).sameCounters.counterInv hs)
  | ack p => exact hs.direct ps (fun seq => (sameCounters_applyAck p seq s).counterInv hs)
  | setNotice p => exact hs.direct ps (fun _ => State.SameCounters.counterInv ⟨rfl, rfl⟩ hs)
  | setWindow p => exact hs.structural (fun _ hx => counterInv_applySetWindow (parseSetWindow_reload hx) hs)
  | joinPair p => exact hs.structural (fun x _ => counterInv_applyJoinPair x hs)
  | startWindow p => exact hs.structural (fun w _ => hs.setRunning w true)
  | stopWindow p => exact hs.structural (fun w _ => hs.setRunning w false)
  | presetWindow p => exact hs.structural (fun w _ => counterInv_applyPresetWindow w hs)
  | bindInput p => exact hs.structural (fun x _ => (sameCounters_applyBind x s).counterInv hs)
  | freeze p => exact hs.direct ps (fun l => (sameCounters_applyFreeze l s).counterInv hs)
  | unfreeze p => exact hs.structural (fun _ _ => hs)
  | confirm p => exact hs.direct ps (fun n => counterInv_applyConfirm p n hs)
  | withdraw p => exact hs.direct ps (fun n => (sameCounters_applyWithdraw p n s).counterInv hs)
  | readProposal p => exact hs.direct ps (fun n => (sameCounters_applyReadProposal p n s).counterInv hs)
  | setAutosave p => exact hs.structural (fun _ _ => State.SameCounters.counterInv ⟨rfl, rfl⟩ hs)
  | audit p => exact hs.direct ps (fun resume => (sameCounters_applyAudit resume s).counterInv hs)
  | identify | readEntry | list | readVerdict | readHistory | readWindow | readInput | readRetention | readAudit =>
    exact hs.direct ps (fun _ => hs)
  | _ => exact hs

/-! ## Every step -/

theorem State.CounterInv.takeCommand {s : State} (hs : s.CounterInv) {p : Port} {test : Byte → Bool}
    {request : List Byte → State → State × Answer}
    (h : ∀ ps {t : State}, t.CounterInv → (request ps t).1.CounterInv) : (s.takeCommand p test request).CounterInv := by
  unfold State.takeCommand
  split
  · exact (State.sameCounters_placeAnswer _ _ _).counterInv (h _ ((s.sameCounters_grant p).counterInv hs))
  · exact hs

theorem State.sameCounters_requestPortSave (s : State) (p : Port) : s.SameCounters (s.requestPortSave p) := by
  unfold State.requestPortSave
  split
  · exact s.sameCounters_placeAnswer _ _
  · split
    · exact s.sameCounters_placeAnswer _ _
    · exact ⟨rfl, rfl⟩
  · split
    · exact s.sameCounters_placeAnswer _ _
    · exact ⟨rfl, rfl⟩
  · split
    · exact s.sameCounters_placeAnswer _ _
    · exact ⟨rfl, rfl⟩
  · exact s.sameCounters_placeAnswer _ _
  · exact s.sameCounters_placeAnswer _ _

theorem sameCounters_execSave (p : Port) {s t : State} (h : execSave p s = .next t) : s.SameCounters t := by
  cases h
  split
  · split
    · exact (s.sameCounters_grant p).trans (State.sameCounters_requestPortSave _ p)
    · exact (s.sameCounters_grant p).trans (State.sameCounters_placeAnswer _ _ _)
  · exact .refl s

theorem counterInv_exec_command {c : Instr} {p : Port} {code : Byte} (hc : portAndCode c = some (p, code))
    {s t : State} (hs : s.CounterInv) (h : exec c s = .next t) : t.CounterInv := by
  by_cases hsave : code = 0x60
  · obtain rfl := eq_save_of_code (hsave ▸ hc)
    exact (sameCounters_execSave p h).counterInv hs
  · rw [exec_command hc hsave] at h
    cases h
    exact hs.takeCommand (counterInv_commandRequest c)

/-! ### Frames -/

theorem State.sameCounters_takeFrame {s : State} {p : Port} {k : PortUnit → State} (h : ∀ u, s.SameCounters (k u)) :
    s.SameCounters (s.takeFrame p k) := by
  unfold State.takeFrame
  dsimp only
  split
  · split
    · exact s.sameCounters_setPort _ _
    · exact h _
  · exact .refl s

theorem sameCounters_execFetch (p : Port) (n : Nat) {s t : State} (h : execFetch p n s = .next t) :
    s.SameCounters t := by
  cases h
  refine State.sameCounters_takeFrame (fun u => ?_)
  split <;> exact s.sameCounters_setPort _ _

theorem sameCounters_execBadKindFrame (p : Port) (kind : Option Byte) (n : Nat) {s t : State}
    (h : execBadKindFrame p kind n s = .next t) : s.SameCounters t := by
  cases h
  split
  · exact State.sameCounters_takeFrame (fun _ => .refl s)
  · split
    · exact .refl s
    · exact State.sameCounters_takeFrame (fun u => s.sameCounters_setPort _ _)

/-- A PORT RESET leaves the counters; the request that it meets keeps them within their reloads. -/
theorem counterInv_execPortReset (p : Port) (frame : ResetFrame) {s t : State} (hs : s.CounterInv)
    (h : execPortReset p frame s = .next t) : t.CounterInv := by
  have heffect : ∀ {u : State} (code : Byte) (ps : List Byte), u.CounterInv → (effectOf p code ps u).CounterInv := by
    intro u code ps hu
    obtain h | ⟨c, -, -, h⟩ := effectOf_cases p code ps u <;> rw [h]
    · exact hu
    · exact counterInv_commandRequest c ps hu
  cases h
  unfold State.takeFrame
  dsimp only
  split
  · split
    · exact (s.sameCounters_setPort _ _).counterInv hs
    · split
      · split
        · exact heffect _ _ ((((s.sameCounters_grant p).trans (State.sameCounters_setPort _ _ _)).trans
            (State.sameCounters_resetPort _ p)).counterInv hs)
        · exact ((s.sameCounters_setPort _ _).trans (State.sameCounters_resetPort _ p)).counterInv hs
      · exact (s.sameCounters_setPort _ _).counterInv hs
  · exact hs

/-! ### Reset and load -/

/-- A part restarted has the counters and joined flags of the reset state. -/
theorem State.counterInv_restart (s : State) (array : PerImage Image) : (s.restart array).CounterInv :=
  State.SameCounters.counterInv (s := State.reset) ⟨rfl, rfl⟩ reset_counterInv

theorem counterInv_execReset (cause : ResetCause) (cut : CutPoint) (faults : List ArrayFault) {s t : State}
    (hs : s.CounterInv) (h : execReset cause cut faults s = .next t) : t.CounterInv := by
  have hports : ∀ (u : State) (x : PerPort PortUnit), u.SameCounters { u with ports := x } := fun _ _ => ⟨rfl, rfl⟩
  cases h
  split
  · exact (hports _ _).counterInv (State.counterInv_restart _ _)
  · split
    · exact State.counterInv_restart _ _
    · exact State.SameCounters.counterInv ⟨rfl, rfl⟩ hs

/-- Loaded counters stand at their effective reloads, none of them 0, their phases 0 (R64, R118). -/
theorem State.counterInv_loadSettings (s : State) (x : SettingsRecord) : (s.loadSettings x).CounterInv := by
  have hreload : ∀ w : Fin 8, ((s.loadSettings x).windows[w]).reload ≠ 0 := fun w => by
    obtain ⟨hreload, -⟩ := s.loadSettings_window x w
    rw [hreload]
    split
    · decide
    · next h => exact h
  refine (State.counterInv_iff _).mpr (fun w => ⟨hreload w, fun hcounts => ?_, fun _ _ => ?_⟩)
  · rw [s.loadSettings_count x hcounts]
    exact ⟨State.effectiveReload_pos hreload w, Nat.le_refl _⟩
  · obtain ⟨-, -, hphase, -⟩ := s.loadSettings_window x w
    exact hphase

theorem State.counterInv_buildLoad (s : State) : s.buildLoad.CounterInv := by
  have himage : s.loadImage.CounterInv := by
    unfold State.loadImage
    split
    · exact State.counterInv_loadSettings _ _
    · exact State.SameCounters.counterInv (s := State.reset) ⟨rfl, rfl⟩ reset_counterInv
  have hverdict : s.loadImage.SameCounters s.loadImage.loadVerdict := by
    unfold State.loadVerdict
    dsimp only
    split <;> exact ⟨rfl, rfl⟩
  obtain ⟨hwindows, hjoined⟩ := hverdict
  exact State.SameCounters.counterInv (t := s.buildLoad) ⟨hwindows, hjoined⟩ himage

theorem counterInv_execLoadEnd (upTo : LoadPoint) {s t : State} (hs : s.CounterInv)
    (h : execLoadEnd upTo s = .next t) : t.CounterInv := by
  have hbuild : (if s.loadBuilt then s else s.buildLoad).CounterInv := by
    split
    · exact hs
    · exact s.counterInv_buildLoad
  have hfinish : ∀ u : State, u.SameCounters u.finishLoad := fun _ => ⟨rfl, rfl⟩
  cases h
  split
  · dsimp only
    split
    · exact hbuild
    · exact (hfinish _).counterInv hbuild
  · exact hs

/-! ### Time, inputs and counters -/

theorem counterInv_execTick {s t : State} (hs : s.CounterInv) (h : execTick s = .next t) : t.CounterInv := by
  cases h
  split
  · refine .of_windows (s := s) rfl (fun v => ?_) (fun v => ?_) <;> rw [getElem_vec8] <;> split
    · rw [Counter.tick_frame]; exact ⟨rfl, rfl⟩
    · exact ⟨rfl, rfl⟩
    · exact (s.counterInv_iff.mp hs v).tick
    · exact s.counterInv_iff.mp hs v
  · exact hs

theorem sameCounters_execUptimeSecond {s t : State} (h : execUptimeSecond s = .next t) : s.SameCounters t := by
  cases h
  exact State.sameCounters_ite ⟨rfl, rfl⟩

theorem sameCounters_execProposalExpiry (k : Fin 4) {s t : State} (h : execProposalExpiry k s = .next t) :
    s.SameCounters t := by
  cases h
  split
  · split
    · exact s.sameCounters_closeProposal _ _
    · exact .refl s
  · exact .refl s

theorem sameCounters_execEventInputEdge (i : Fin 4) (soon : Bool) {s t : State}
    (h : execEventInputEdge i soon s = .next t) : s.SameCounters t := by
  cases h
  split
  · exact .refl s
  · split
    · exact s.sameCounters_setInput _ _
    · split
      · exact s.sameCounters_setInput _ _
      · split
        · exact s.sameCounters_setInput _ _
        · split
          · exact (s.sameCounters_setInput _ _).trans (State.sameCounters_setInput _ _ _)
          all_goals exact s.sameCounters_setInput _ _

theorem sameCounters_execEventInputReturn (i : Fin 4) {s t : State} (h : execEventInputReturn i s = .next t) :
    s.SameCounters t := by
  cases h
  exact State.sameCounters_ite (s.sameCounters_setInput _ _)

theorem sameCounters_execFilterWidthElapsed (i : Fin 4) {s t : State} (h : execFilterWidthElapsed i s = .next t) :
    s.SameCounters t := by
  cases h
  exact State.sameCounters_ite (s.sameCounters_setInput _ _)

/-- The phase is taken back by a TICK counter alone, and the decrement is the one of R68. -/
theorem counterInv_execWindowTickDecrement (w : Fin 8) {s t : State} (hs : s.CounterInv)
    (h : execWindowTickDecrement w s = .next t) : t.CounterInv := by
  cases h
  split
  · next d hsource =>
    split
    · next htaken =>
      simp only [Bool.and_eq_true] at htaken
      obtain ⟨⟨⟨-, hcounts⟩, -⟩, -⟩ := htaken
      have hold := s.counterInv_iff.mp hs w
      have hphased := hs.setCounter (c := { s.windows[w] with phase := (s.windows[w]).phase - d.ticks }) rfl rfl
        ⟨hold.reload, hold.count, fun i hi => absurd (hsource.symm.trans hi) (by simp)⟩
      exact hphased.decrement hcounts
    · exact hs
  · exact hs

theorem counterInv_execWindowEventDecrement (n : PulseCount) {s t : State} (hs : s.CounterInv)
    (h : execWindowEventDecrement n s = .next t) : t.CounterInv := by
  cases h
  split
  · dsimp only
    split
    · next htakes =>
      obtain ⟨hcounts, -, -⟩ := (s.takesPulse_iff _ _).mp htakes
      exact State.CounterInv.decrement ((s.sameCounters_setInput _ _).counterInv hs) hcounts
    · exact (s.sameCounters_setInput _ _).counterInv hs
  · exact hs

/-- A fold, a close or an early look moves no reload, count, source or phase (R70, R72). -/
theorem EventOutcome.counterInv {s t : State} (h : EventOutcome s t) (hs : s.CounterInv) : t.CounterInv := by
  have hjoined : t.joined = s.joined := by rw [h.frame]; rfl
  refine .of_windows hjoined (fun v => ?_) (fun v => ?_) <;> rw [h.windows v]
  · exact ⟨rfl, rfl⟩
  · have hold := s.counterInv_iff.mp hs v
    exact ⟨hold.reload, hold.count, hold.phase⟩

/-- Every command and event keeps the counters within their reloads. -/
theorem counterInv_exec (c : Instr) {s t : State} (hs : s.CounterInv) (h : exec c s = .next t) : t.CounterInv := by
  cases hc : portAndCode c with
  | some x => exact counterInv_exec_command (p := x.1) (code := x.2) hc hs h
  | none =>
    cases c with
    | unknownCommand p => cases h; exact hs.takeCommand (fun _ _ ht => ht)
    | commandFrame p bytes =>
      cases h; exact (State.sameCounters_takeFrame (fun _ => s.sameCounters_setPort _ _)).counterInv hs
    | poll p n => cases h; exact (State.sameCounters_takeFrame (fun _ => s.sameCounters_setPort _ _)).counterInv hs
    | fetch p n => exact (sameCounters_execFetch p n h).counterInv hs
    | portReset p frame => exact counterInv_execPortReset p frame hs h
    | badKindFrame p kind n => exact (sameCounters_execBadKindFrame p kind n h).counterInv hs
    | reset cause cut faults => exact counterInv_execReset cause cut faults hs h
    | loadEnd upTo => exact counterInv_execLoadEnd upTo hs h
    | pfwAssertion => exact (State.sameCounters_timed (timed_execPfwAssertion h)).counterInv hs
    | pfwRelease => exact (State.sameCounters_timed (timed_execPfwRelease h)).counterInv hs
    | tick => exact counterInv_execTick hs h
    | uptimeSecond => exact (sameCounters_execUptimeSecond h).counterInv hs
    | proposalExpiry k => exact (sameCounters_execProposalExpiry k h).counterInv hs
    | intervalTimerExpiry => exact (State.sameCounters_timed (timed_execIntervalTimerExpiry h)).counterInv hs
    | eventInputEdge i soon => exact (sameCounters_execEventInputEdge i soon h).counterInv hs
    | eventInputReturn i => exact (sameCounters_execEventInputReturn i h).counterInv hs
    | filterWidthElapsed i => exact (sameCounters_execFilterWidthElapsed i h).counterInv hs
    | pulseFold i => exact (eventOutcome_execPulseFold h).counterInv hs
    | windowTickDecrement w => exact counterInv_execWindowTickDecrement w hs h
    | windowEventDecrement n => exact counterInv_execWindowEventDecrement n hs h
    | windowClose w => exact (eventOutcome_execWindowClose h).counterInv hs
    | earlyLook w => exact (eventOutcome_execEarlyLook h).counterInv hs
    | saveEnd ok => exact (saveMoves_execSaveEnd h).1.sameCounters.counterInv hs
    | auditSegmentEnd faults => exact (unitMoves_execAuditSegmentEnd h).sameCounters.counterInv hs
    | lossOfPower cut => cases h; exact State.counterInv_restart _ _
    | rstNRelease selected => cases h; split <;> exact State.SameCounters.counterInv ⟨rfl, rfl⟩ hs
    | openMarkingWritten => exact (unitMoves_execOpenMarkingWritten h).sameCounters.counterInv hs
    | _ => cases hc

/-- Settles O8, command by command: a counter is written within its reload or preset to it, all else leaves the
counters. -/
theorem stepKeepsCountsWithinTheirReload : Obligations.StepKeepsCountsWithinTheirReload := by
  unfold Obligations.StepKeepsCountsWithinTheirReload
  intro s t hs hstep
  obtain ⟨-, rfl⟩ | ⟨c, rest, -, hexec⟩ := step_cases hstep
  · exact hs
  · have hqueue : s.SameCounters { s with pending := rest } := ⟨rfl, rfl⟩
    exact counterInv_exec c (hqueue.counterInv hs) hexec

end Sys2Proof.Machine
end

section
/-! PROOFS. The notice of a port under its own commands: ACK (O31) and SET_NOTICE (O32). -/

namespace Sys2Proof.Machine

/-! ## One notice written -/

theorem State.blind_writeNotice (p : Port) (f : Notice → Notice) :
    State.Blind (fun s => { s with notices := s.notices.set p (f (s.notices.get p)) }) := fun _ _ _ => rfl

/-! ## SET_NOTICE (R90) -/

/-- The range check of SET_NOTICE passes the one byte that is a mask's code. -/
theorem parseMask_iff {ps : List Byte} {m : NoticeMask} : parseMask ps = some m ↔ ps = [m.toByte] := by
  constructor
  · intro h
    match ps, h with
    | [x], h =>
      have hcode : x.toNat = m.toByte.toNat := by
        change maskOf x = some m at h
        unfold maskOf at h
        split at h <;> cases h <;> assumption
      rw [BitVec.eq_of_toNat_eq hcode]
  · rintro rfl
    cases m <;> rfl

section
variable {s : State} {p : Port} {ps : List Byte}

theorem exec_setNotice_writes (h : s.Granted p 0x22 ps) {m : NoticeMask} (hm : ps = [m.toByte]) :
    exec (.setNotice p) s = .next
      (({ s with notices := s.notices.set p ⟨m, (s.notices.get p).state⟩ } : State).answered p ⟨.ok, [m.toByte]⟩) := by
  have hrequest : requestSetNotice p ps (s.grant p) = applySetNotice p m (s.grant p) :=
    State.direct_ok _ _ _ _ (parseMask_iff.mpr hm)
  exact congrArg Host.Outcome.next (State.takeCommand_effect (test := fun y => y == 0x22) h rfl
    (State.blind_writeNotice p (fun n => ⟨m, n.state⟩)) hrequest)

theorem exec_setNotice_refused (h : s.Granted p 0x22 ps) (hm : parseMask ps = none) :
    exec (.setNotice p) s = .next (s.answered p ⟨.badParam, []⟩) :=
  congrArg Host.Outcome.next (State.takeCommand_answer (test := fun y => y == 0x22) h rfl
    (State.direct_bad _ noIdent parseMask _ hm))

end

/-- Settles O32, by the three codes of a mask. -/
theorem setNoticeWritesTheMaskOfItsPort : Obligations.SetNoticeWritesTheMaskOfItsPort := by
  unfold Obligations.SetNoticeWritesTheMaskOfItsPort
  intro s p ps h
  dsimp only
  split
  · next hnone => exact exec_setNotice_writes (m := .none) h hnone
  · split
    · next hworsen => exact exec_setNotice_writes (m := .worsen) h hworsen
    · split
      · next hany => exact exec_setNotice_writes (m := .any) h hany
      · next hnone hworsen hany =>
        refine exec_setNotice_refused h (Option.eq_none_iff_forall_ne_some.mpr (fun m hm => ?_))
        have hcode := parseMask_iff.mp hm
        cases m
        · exact hnone hcode
        · exact hworsen hcode
        · exact hany hcode

/-! ## ACK (R88) -/

theorem applyAck_clear {s : State} {p : Port} (hn : (s.notices.get p).state = .clear) (seq : Word16) :
    applyAck p seq s = (s, ⟨.nothingPending, be16 s.verdictSeq⟩) := by
  simp only [applyAck, hn]

theorem applyAck_current {s : State} {p : Port} (hn : (s.notices.get p).state ≠ .clear) :
    applyAck p s.verdictSeq s =
      ({ s with notices := s.notices.set p { s.notices.get p with state := .clear } }, ⟨.ok, be16 s.verdictSeq⟩) := by
  cases hs : (s.notices.get p).state
  · exact absurd hs hn
  · simp only [applyAck, hs, if_true, State.setNotice]

theorem applyAck_stale {s : State} {p : Port} {seq : Word16} (hn : (s.notices.get p).state ≠ .clear)
    (hseq : seq ≠ s.verdictSeq) : applyAck p seq s = (s, ⟨.stale, be16 s.verdictSeq⟩) := by
  cases hs : (s.notices.get p).state
  · exact absurd hs hn
  · simp only [applyAck, hs, if_neg hseq]

section
variable {s : State} {p : Port}

theorem exec_ack_refused {ps : List Byte} (h : s.Granted p 0x21 ps) (hlen : ps.length ≠ 2) :
    exec (.ack p) s = .next (s.answered p ⟨.badParam, []⟩) := by
  have hparse : parseWord ps = none :=
    none_of_isSome (parseWord_isSome ps) (beq_eq_false_iff_ne.mpr hlen)
  exact congrArg Host.Outcome.next (State.takeCommand_answer (test := fun y => y == 0x21) h rfl
    (State.direct_bad _ noIdent parseWord _ hparse))

/-- An ACK that is answered and moves nothing. -/
theorem exec_ack_answered {hi lo : Byte} (h : s.Granted p 0x21 [hi, lo]) {a : Answer}
    (ha : applyAck p (hi ++ lo) (s.grant p) = (s.grant p, a)) : exec (.ack p) s = .next (s.answered p a) :=
  congrArg Host.Outcome.next (State.takeCommand_answer (test := fun y => y == 0x21) h rfl ha)

theorem exec_ack_clears {hi lo : Byte} (h : s.Granted p 0x21 [hi, lo]) (hn : (s.notices.get p).state ≠ .clear)
    (hseq : hi ++ lo = s.verdictSeq) :
    exec (.ack p) s = .next
      (({ s with notices := s.notices.set p { s.notices.get p with state := .clear } } : State).answered p
        ⟨.ok, be16 s.verdictSeq⟩) := by
  have hrequest : requestAck p [hi, lo] (s.grant p) = applyAck p (hi ++ lo) (s.grant p) := rfl
  rw [hseq] at hrequest
  exact congrArg Host.Outcome.next (State.takeCommand_effect (test := fun y => y == 0x21) h rfl
    (State.blind_writeNotice p (fun n => { n with state := .clear }))
    (hrequest.trans (applyAck_current (s := s.grant p) hn)))

end

theorem State.alertLow_iff (s : State) (p : Port) : s.alertLow p = true ↔ (s.notices.get p).state = .pending :=
  beq_iff_eq

/-- Settles O31, by the length of the block, the notice and the sequence named. -/
theorem ackIsJudgedAgainstTheCurrentSequence : Obligations.AckIsJudgedAgainstTheCurrentSequence := by
  unfold Obligations.AckIsJudgedAgainstTheCurrentSequence
  refine ⟨fun s p ps h => ?_, State.alertLow_iff⟩
  split
  · next hi lo =>
    split
    · next hclear => exact exec_ack_answered h (applyAck_clear (s := s.grant p) hclear _)
    · next hpending =>
      split
      · next hseq => exact exec_ack_clears h hpending hseq
      · next hseq => exact exec_ack_answered h (applyAck_stale (s := s.grant p) hpending hseq)
  · next hshort =>
    refine exec_ack_refused h (fun hlen => ?_)
    obtain ⟨hi, lo, hps⟩ := List.length_eq_two.mp hlen
    exact hshort hi lo hps

end Sys2Proof.Machine
end

section
/-! PROOFS. What frames, the commands that read, ACK, SET_NOTICE and AUDIT leave as they find it (O56). -/

namespace Sys2Proof.Machine

/-! ## Frames -/

/-- `t` is `s` but for the unit of port `p`. -/
structure State.OwnUnit (p : Port) (s t : State) : Prop where
  frame : t = { s with ports := t.ports }
  others : ∀ q, q ≠ p → t.ports.get q = s.ports.get q

theorem State.OwnUnit.refl (p : Port) (s : State) : s.OwnUnit p s := ⟨rfl, fun _ _ => rfl⟩

theorem State.ownUnit_setPort (s : State) (p : Port) (u : PortUnit) : s.OwnUnit p (s.setPort p u) :=
  ⟨rfl, fun q hq => by rw [State.setPort_ports, perPort_get_set, if_neg hq]⟩

/-- What becomes of a frame: it finds no part that takes it, it is ignored whole, or it is taken (R163). -/
theorem State.takeFrame_cases (s : State) (p : Port) (k : PortUnit → State) :
    s.takeFrame p k = s ∨ s.takeFrame p k = s.setPort p { s.ports.get p with ignoreFrame := false } ∨
      s.takeFrame p k = k (s.ports.get p) := by
  cases hl : s.live
  · exact .inl (State.takeFrame_dead hl)
  · cases hi : (s.ports.get p).ignoreFrame
    · exact .inr (.inr (State.takeFrame_taken hl hi))
    · exact .inr (.inl (State.takeFrame_ignored hl hi))

theorem State.ownUnit_takeFrame {s : State} {p : Port} {k : PortUnit → State} (h : ∀ u, s.OwnUnit p (k u)) :
    s.OwnUnit p (s.takeFrame p k) := by
  obtain hdead | hignored | htaken := s.takeFrame_cases p k
  · rw [hdead]; exact .refl p s
  · rw [hignored]; exact s.ownUnit_setPort p _
  · rw [htaken]; exact h _

theorem ownUnit_execFetch {p : Port} {n : Nat} {s t : State} (h : execFetch p n s = .next t) : s.OwnUnit p t := by
  cases h
  refine State.ownUnit_takeFrame (fun u => ?_)
  split <;> exact s.ownUnit_setPort p _

theorem ownUnit_execBadKindFrame {p : Port} {kind : Option Byte} {n : Nat} {s t : State}
    (h : execBadKindFrame p kind n s = .next t) : s.OwnUnit p t := by
  cases h
  split
  · exact State.ownUnit_takeFrame (fun _ => .refl p s)
  · split
    · exact .refl p s
    · exact State.ownUnit_takeFrame (fun u => s.ownUnit_setPort p _)

/-- A POLL leaves its port's slot and frame result (R153). -/
theorem execPoll_leaves {p : Port} {n : Nat} {s t : State} (h : execPoll p n s = .next t) :
    (t.ports.get p).slot = s.slot p ∧ (t.ports.get p).frameResult = (s.ports.get p).frameResult := by
  have hport : ∀ u : PortUnit, ((s.setPort p u).ports.get p) = u := fun u => by
    rw [State.setPort_ports, perPort_get_set, if_pos rfl]
  cases h
  obtain hdead | hignored | htaken :=
    s.takeFrame_cases p (fun u => s.setPort p { u with reply := clockOut n (s.summary p u) })
  · rw [hdead]; exact ⟨rfl, rfl⟩
  · rw [hignored, hport]; exact ⟨rfl, rfl⟩
  · rw [htaken, hport]; exact ⟨rfl, rfl⟩

/-! ## Commands at their grant -/

/-- A command that is taken leaves what its request leaves, but for the port units; one that is not taken leaves all. -/
theorem State.takeCommand_cases (s : State) (p : Port) (test : Byte → Bool)
    (request : List Byte → State → State × Answer) :
    s.takeCommand p test request = s ∨ ∃ ps x, s.takeCommand p test request =
      { (request ps (s.grant p)).1 with ports := x } := by
  unfold State.takeCommand
  split
  · exact .inr ⟨_, _, State.placeAnswer_ports _ _ _⟩
  · exact .inl rfl

/-- The commands that read, and the unknown codes. -/
def readingCommands (p : Port) : List Instr :=
  [.identify p, .readEntry p, .list p, .readVerdict p, .readHistory p, .readWindow p, .readInput p, .readRetention p,
   .readAudit p, .unknownCommand p]

theorem State.direct_reads {α : Type} (s : State) (ident : List Byte → List Byte) (parse : List Byte → Option α)
    (answer : α → State → Answer) (ps : List Byte) :
    (s.direct ident parse (fun x u => (u, answer x u)) ps).1 = s := by
  unfold State.direct
  split <;> rfl

theorem commandRequest_reads {c : Instr} {p : Port} (hc : c ∈ readingCommands p) (ps : List Byte) (s : State) :
    (commandRequest c ps s).1 = s := by
  simp only [readingCommands, List.mem_cons, List.not_mem_nil, or_false] at hc
  obtain rfl | rfl | rfl | rfl | rfl | rfl | rfl | rfl | rfl | rfl := hc
  case inr.inr.inr.inr.inr.inr.inr.inr.inr => rfl
  all_goals exact s.direct_reads _ _ _ ps

/-- ACK and SET_NOTICE write their port's notice at most (R88, R90). -/
theorem commandRequest_notice {c : Instr} {p : Port} (hc : c ∈ [Instr.ack p, .setNotice p]) (ps : List Byte)
    (s : State) : ∃ n, (commandRequest c ps s).1 = s.setNotice p n := by
  have hsame : s = s.setNotice p (s.notices.get p) := by rw [State.setNotice, perPort_set_get]
  simp only [List.mem_cons, List.not_mem_nil, or_false] at hc
  obtain rfl | rfl := hc
  · cases hp : parseWord ps with
    | none => exact ⟨_, (congrArg Prod.fst (s.direct_bad _ _ _ hp)).trans hsame⟩
    | some seq =>
      have hrequest : (commandRequest (.ack p) ps s).1 = (applyAck p seq s).1 :=
        congrArg Prod.fst (s.direct_ok _ _ _ hp)
      by_cases hn : (s.notices.get p).state = .clear
      · exact ⟨_, (hrequest.trans (congrArg Prod.fst (applyAck_clear hn seq))).trans hsame⟩
      · by_cases hseq : seq = s.verdictSeq
        · subst hseq
          exact ⟨_, hrequest.trans (congrArg Prod.fst (applyAck_current hn))⟩
        · exact ⟨_, (hrequest.trans (congrArg Prod.fst (applyAck_stale hn hseq))).trans hsame⟩
  · cases hp : parseMask ps with
    | none => exact ⟨_, (congrArg Prod.fst (s.direct_bad _ _ _ hp)).trans hsame⟩
    | some m => exact ⟨_, congrArg Prod.fst (s.direct_ok _ _ _ hp)⟩

/-- AUDIT moves the sweep and the retention state at most (R139, R140). -/
theorem commandRequest_audit (p : Port) (ps : List Byte) (s : State) :
    ∃ m a, (commandRequest (.audit p) ps s).1 = { s with mode := m, audit := a } := by
  show ∃ m a, (requestAudit p ps s).1 = _
  unfold requestAudit State.direct
  split
  · exact ⟨_, _, rfl⟩
  · unfold applyAudit
    split
    case h_6 =>
      split
      · exact ⟨_, _, rfl⟩
      · split <;> exact ⟨_, _, rfl⟩
    all_goals exact ⟨_, _, rfl⟩

/-- A command of 10.2 other than SAVE, or UNKNOWN_COMMAND, on port `p`. -/
def RequestsAt (c : Instr) (p : Port) : Prop :=
  c = .unknownCommand p ∨ ∃ code, portAndCode c = some (p, code) ∧ code ≠ 0x60

/-- Such a command moves its port's slot, and besides what its request moves from the grant on. -/
theorem RequestsAt.leaves {c : Instr} {p : Port} {s t : State} (hc : RequestsAt c p) (h : exec c s = .next t) :
    onlySlotState p s t ∧ (t = s ∨ ∃ ps x, t = { (commandRequest c ps (s.grant p)).1 with ports := x }) := by
  have htake : ∃ test, exec c s = .next (s.takeCommand p test (commandRequest c)) := by
    obtain rfl | ⟨code, hcode, hne⟩ := hc
    · exact ⟨_, rfl⟩
    · exact ⟨_, exec_command hcode hne s⟩
  obtain ⟨test, htake⟩ := htake
  cases htake.symm.trans h
  exact ⟨onlySlotState_takeCommand (offSlots_commandRequest c), s.takeCommand_cases p test _⟩

section
variable {c : Instr} {p : Port} {s t : State}

theorem exec_reads_leaves (hc : c ∈ readingCommands p) (h : exec c s = .next t) :
    t = { s with ports := t.ports, lastGranted := t.lastGranted } ∧ onlySlotState p s t := by
  have hrequests : RequestsAt c p := by
    simp only [readingCommands, List.mem_cons, List.not_mem_nil, or_false] at hc
    obtain rfl | rfl | rfl | rfl | rfl | rfl | rfl | rfl | rfl | rfl := hc
    case inr.inr.inr.inr.inr.inr.inr.inr.inr => exact .inl rfl
    all_goals exact .inr ⟨_, rfl, by decide⟩
  obtain ⟨hslot, rfl | ⟨ps, x, rfl⟩⟩ := hrequests.leaves h
  · exact ⟨rfl, hslot⟩
  · exact ⟨by rw [commandRequest_reads hc]; rfl, hslot⟩

theorem exec_notice_leaves (hc : c ∈ [Instr.ack p, .setNotice p]) (h : exec c s = .next t) :
    t = { s with ports := t.ports, lastGranted := t.lastGranted, notices := t.notices } ∧ onlySlotState p s t ∧
    ∀ q, q ≠ p → t.notices.get q = s.notices.get q := by
  have hrequests : RequestsAt c p := by
    simp only [List.mem_cons, List.not_mem_nil, or_false] at hc
    obtain rfl | rfl := hc <;> exact .inr ⟨_, rfl, by decide⟩
  obtain ⟨hslot, rfl | ⟨ps, x, rfl⟩⟩ := hrequests.leaves h
  · exact ⟨rfl, hslot, fun _ _ => rfl⟩
  · obtain ⟨n, hn⟩ := commandRequest_notice hc ps (s.grant p)
    refine ⟨by rw [hn]; rfl, hslot, fun q hq => ?_⟩
    rw [hn]
    exact (perPort_get_set s.notices p q n).trans (if_neg hq)

theorem exec_audit_leaves (h : exec (.audit p) s = .next t) :
    t = { s with ports := t.ports, lastGranted := t.lastGranted, mode := t.mode, audit := t.audit } ∧
    onlySlotState p s t := by
  have hrequests : RequestsAt (.audit p) p := .inr ⟨_, rfl, by decide⟩
  obtain ⟨hslot, rfl | ⟨ps, x, rfl⟩⟩ := hrequests.leaves h
  · exact ⟨rfl, hslot⟩
  · obtain ⟨m, a, hma⟩ := commandRequest_audit p ps (s.grant p)
    exact ⟨by rw [hma]; rfl, hslot⟩

end

/-- Settles O56, by the unit of each frame's port and by what the request of each command moves. -/
theorem framesAndReadsLeaveEverythingElse : Obligations.FramesAndReadsLeaveEverythingElse := by
  unfold Obligations.FramesAndReadsLeaveEverythingElse
  refine ⟨fun c p s t hc h => ?_, fun c p s t h => ⟨fun hc => exec_reads_leaves hc h,
    fun hc => exec_notice_leaves hc h, fun hc => exec_audit_leaves (hc ▸ h)⟩⟩
  have hunit : s.OwnUnit p t := by
    obtain ⟨bytes, rfl⟩ | ⟨n, rfl⟩ | ⟨n, rfl⟩ | ⟨kind, n, rfl⟩ := hc
    · cases h; exact State.ownUnit_takeFrame (fun u => s.ownUnit_setPort p _)
    · cases h; exact State.ownUnit_takeFrame (fun u => s.ownUnit_setPort p _)
    · exact ownUnit_execFetch h
    · exact ownUnit_execBadKindFrame h
  exact ⟨hunit.frame, hunit.others, fun n hn => execPoll_leaves (hn ▸ h)⟩

end Sys2Proof.Machine
end

section
/-! PROOFS. The requests of the commands neither read nor write the slots and the arbiter (R5, R160). -/

namespace Sys2Proof.Machine

/-! ## Effects and requests that do not look at the slots -/

/-- What does not look at the slots and the arbiter. -/
def State.Unseen {α : Type} (f : State → α) : Prop := ∀ s x g, f { s with ports := x, lastGranted := g } = f s

/-- A request whose effect neither reads nor writes the slots and the arbiter and whose answer does not look at them. -/
def BlindRequest (f : State → State × Answer) : Prop :=
  ∀ s x g, f { s with ports := x, lastGranted := g } = ({ (f s).1 with ports := x, lastGranted := g }, (f s).2)

theorem State.Blind.request {f : State → State} (hf : State.Blind f) (a : Answer) : BlindRequest (fun s => (f s, a)) :=
  fun s x g => congrArg (fun t => (t, a)) (hf s x g)

theorem BlindRequest.refused (a : Answer) : BlindRequest (fun s => (s, a)) := fun _ _ _ => rfl

theorem State.Blind.ite {c : State → Prop} [∀ s, Decidable (c s)] (hc : State.Unseen c) {f g : State → State}
    (hf : State.Blind f) (hg : State.Blind g) : State.Blind (fun s => if c s then f s else g s) := by
  intro s x y
  have hcond := hc s x y
  by_cases h : c s
  · simp only [hcond, h, if_true]; exact hf s x y
  · simp only [hcond, h, if_false]; exact hg s x y

theorem BlindRequest.ite {c : State → Prop} [∀ s, Decidable (c s)] (hc : State.Unseen c) {f g : State → State × Answer}
    (hf : BlindRequest f) (hg : BlindRequest g) : BlindRequest (fun s => if c s then f s else g s) := by
  intro s x y
  have hcond := hc s x y
  by_cases h : c s
  · simp only [hcond, h, if_true]; exact hf s x y
  · simp only [hcond, h, if_false]; exact hg s x y

theorem State.blind_foldl {α : Type} {f : State → α → State} (h : ∀ y, State.Blind (fun t => f t y)) (l : List α) :
    State.Blind (fun s => l.foldl f s) := by
  induction l with
  | nil => exact fun _ _ _ => rfl
  | cons y l ih => exact ih.comp (h y)

/-! ## Proposals -/

theorem State.blind_closeProposal (k : Fin 4) (o : ProposalOutcome) : State.Blind (fun s => s.closeProposal k o) := by
  intro s x g
  simp only [State.closeProposal]
  cases s.proposals[k] <;> rfl

theorem State.blind_discardOpen : State.Blind State.discardOpen := fun s =>
  State.blind_foldl (fun k => .ite (c := fun t => t.isOpen k = true) (fun _ _ _ => rfl)
    (State.blind_closeProposal k .discarded) (fun _ _ _ => rfl)) s.madeOrder s

theorem State.unseen_pickNumber (fuel : Nat) (n : Word16) : State.Unseen (fun s => s.pickNumber fuel n) := by
  intro s x g
  induction fuel generalizing n with
  | zero => rfl
  | succ fuel ih =>
    have hinUse : ({ s with ports := x, lastGranted := g } : State).numberInUse n = s.numberInUse n := rfl
    simp only [State.pickNumber, hinUse]
    split
    · exact ih _
    · rfl

theorem blind_makeProposal (p : Port) (code : StructuralCode) (ps : List Byte) :
    BlindRequest (fun s => s.makeProposal p code ps) := by
  intro s x g
  have hslot : ({ s with ports := x, lastGranted := g } : State).findSlot = s.findSlot := rfl
  have hpick : ∀ k n, (({ s with ports := x, lastGranted := g } : State).freeProposal k).pickNumber 5 n =
      (s.freeProposal k).pickNumber 5 n := fun k n => State.unseen_pickNumber 5 n (s.freeProposal k) x g
  simp only [State.makeProposal, hslot, hpick]
  cases s.findSlot <;> rfl

/-! ## The commands of the table -/

theorem BlindRequest.structural {α : Type} {apply : α → State → State × Answer} (h : ∀ y, BlindRequest (apply y))
    (p : Port) (code : StructuralCode) (ident : List Byte → List Byte) (parse : List Byte → Option α) (ps : List Byte) :
    BlindRequest (fun s => s.structural p code ident parse apply ps) := by
  intro s x g
  simp only [State.structural]
  cases parse ps with
  | none => rfl
  | some y =>
    exact BlindRequest.ite (c := fun s => s.frozen = true) (fun _ _ _ => rfl) (blind_makeProposal p code ps) (h y) s x g

theorem BlindRequest.direct {α : Type} {apply : α → State → State × Answer} (h : ∀ y, BlindRequest (apply y))
    {ident : State → List Byte → List Byte} (hident : ∀ ps, State.Unseen (fun s => ident s ps))
    (parse : List Byte → Option α) (ps : List Byte) :
    BlindRequest (fun s => s.direct (ident s) parse apply ps) := by
  intro s x g
  simp only [State.direct]
  cases parse ps with
  | none => exact congrArg (fun bytes => (_, refuse .badParam bytes)) (hident ps s x g)
  | some y => exact h y s x g

theorem blind_applyDefine (x : DefineParams) : BlindRequest (applyDefine x) :=
  .ite (c := fun s => (findEntry x.id s.table).isSome = true) (fun _ _ _ => rfl) (.refused _) <|
    .ite (c := fun s => Config.entries ≤ s.table.length) (fun _ _ _ => rfl) (.refused _) <|
      .ite (c := fun s => s.badWindow x.kind = true) (fun _ _ _ => rfl) (.refused _) <|
        (State.Blind.redefined (f := fun s => s.addEntry x.entry) (fun _ _ _ => rfl) _).request _

theorem blind_applyRetire (id : Byte) : BlindRequest (applyRetire id) := by
  intro s x g
  simp only [applyRetire]
  cases findEntry id s.table with
  | none => rfl
  | some _ =>
    exact (State.Blind.redefined (f := fun s => ((s.dropEntry id).unbindAll id).markSettings) (fun _ _ _ => rfl)
      _).request _ s x g

theorem State.blind_writeEntry (id : Byte) (f : Entry → Entry) : State.Blind (fun s => s.writeEntry id f) :=
  fun _ _ _ => rfl

theorem blind_applyTune (x : TuneParams) : BlindRequest (applyTune x) := by
  intro s y g
  simp only [applyTune]
  cases findEntry x.id s.table with
  | none => rfl
  | some e =>
    dsimp only
    cases x.kindFor e.kind with
    | none => rfl
    | some k => exact (State.Blind.redefined (State.blind_writeEntry x.id (x.tune k)) _).request _ s y g

theorem blind_applyClear (id : Byte) : BlindRequest (applyClear id) := by
  intro s x g
  simp only [applyClear]
  cases findEntry id s.table with
  | none => rfl
  | some _ => exact ((State.blind_recompute _).comp (State.blind_writeEntry id Entry.refresh)).request _ s x g

theorem unseen_firstFailure (p : Port) (items : List (Byte × Word16)) (n : Nat) :
    State.Unseen (fun s => firstFailure s p n items) := by
  intro s x g
  induction items generalizing n with
  | nil => rfl
  | cons item items ih =>
    have hitem : checkItem { s with ports := x, lastGranted := g } p item = checkItem s p item := rfl
    simp only [firstFailure, hitem]
    cases checkItem s p item with
    | none => exact ih (n + 1)
    | some st => rfl

theorem blind_applyItems (items : List (Byte × Word16)) : State.Blind (fun s => applyItems s items) :=
  State.blind_foldl (fun _ _ _ _ => rfl) items

theorem blind_applyReport (p : Port) (items : List (Byte × Word16)) : BlindRequest (applyReport p items) := by
  intro s x g
  have hchecks : firstFailure { s with ports := x, lastGranted := g } p 0 items = firstFailure s p 0 items :=
    unseen_firstFailure p items 0 s x g
  simp only [applyReport, hchecks]
  cases firstFailure s p 0 items with
  | none => exact (((State.blind_recompute (.report p)).comp (blind_applyItems items)).request _) s x g
  | some _ => rfl

/-! ## The commands of the settings, the notices and the sweep -/

theorem blind_applySetWindow (x : SetWindowParams) : BlindRequest (applySetWindow x) :=
  .ite (c := fun s => ((s.windows[s.baseCounter x.index]).running || (s.windows[x.index]).running) = true)
    (fun _ _ _ => rfl) (.refused _) (fun _ _ _ => rfl)

theorem blind_applyJoinPair (x : Fin 4 × Bool) : BlindRequest (applyJoinPair x) :=
  .ite (c := fun s => ((s.windows[lowOf x.1]).running || (s.windows[highOf x.1]).running) = true) (fun _ _ _ => rfl)
    (.refused _) <|
    .ite (c := fun s => (x.2 && s.hasBound (highOf x.1)) = true) (fun _ _ _ => rfl) (.refused _)
      (fun _ _ _ => rfl)

theorem blind_applyBind (x : BindParams) : BlindRequest (applyBind x) := by
  have hbind : ∀ a, BlindRequest (fun s => (s.bind x, a)) := fun a => (State.blind_bind x).request a
  intro s y g
  simp only [applyBind]
  cases x.binding with
  | none => exact hbind _ s y g
  | some id =>
    dsimp only
    cases findEntry id s.table with
    | none => rfl
    | some e =>
      dsimp only
      cases e.kind with
      | level => rfl
      | count => exact hbind _ s y g
      | rate => exact hbind _ s y g

theorem blind_applyFreeze (l : Word16) : BlindRequest (applyFreeze l) := by
  intro s x g
  simp only [applyFreeze]
  split <;> rfl

theorem blind_applyAck (p : Port) (seq : Word16) : BlindRequest (applyAck p seq) := by
  intro s x g
  simp only [applyAck]
  cases (s.notices.get p).state with
  | clear => rfl
  | pending =>
    dsimp only
    split <;> rfl

theorem blind_applyAudit (resume : Bool) : BlindRequest (applyAudit resume) := by
  intro s x g
  cases hm : s.mode with
  | idle =>
    simp only [applyAudit, hm]
    split
    · simp only [hm]; rfl
    · split
      · simp only [hm]; rfl
      · rfl
  | _ => simp only [applyAudit, hm]; rfl

/-! ## The commands on proposals -/

theorem BlindRequest.applyHeldWith {α : Type} {apply : α → State → State × Answer} (h : ∀ y, BlindRequest (apply y))
    (ident : List Byte → List Byte) (parse : List Byte → Option α) (ps : List Byte) :
    BlindRequest (fun s => applyHeldWith ident parse apply ps s) := by
  intro s x g
  simp only [Machine.applyHeldWith]
  cases parse ps with
  | none => rfl
  | some y => exact h y s x g

theorem blind_applyHeld (code : StructuralCode) (ps : List Byte) : BlindRequest (applyHeld code ps) := by
  cases code with
  | define => exact .applyHeldWith blind_applyDefine _ _ ps
  | retire => exact .applyHeldWith blind_applyRetire _ _ ps
  | tune => exact .applyHeldWith blind_applyTune _ _ ps
  | clear => exact .applyHeldWith blind_applyClear _ _ ps
  | setWindow => exact .applyHeldWith blind_applySetWindow _ _ ps
  | joinPair => exact .applyHeldWith blind_applyJoinPair _ _ ps
  | bindInput => exact .applyHeldWith blind_applyBind _ _ ps
  | startWindow | stopWindow | presetWindow | setAutosave | unfreeze =>
    exact .applyHeldWith (fun _ _ _ _ => rfl) _ _ ps

theorem blind_confirmProposal (k : Fin 4) (q : Proposal) : BlindRequest (fun s => s.confirmProposal k q) := by
  intro s x g
  have hclose : ∀ (t : State) (o : ProposalOutcome),
      ({ t with ports := x, lastGranted := g } : State).closeProposal k o =
        { t.closeProposal k o with ports := x, lastGranted := g } := fun t o => State.blind_closeProposal k o t x g
  simp only [State.confirmProposal, blind_applyHeld q.code q.params s x g, hclose]
  split
  · rw [State.blind_discardOpen]
  · rfl

theorem blind_applyConfirm (p : Port) (n : Word16) : BlindRequest (applyConfirm p n) := by
  intro s x g
  have hfind : ({ s with ports := x, lastGranted := g } : State).findProposal n = s.findProposal n := rfl
  simp only [applyConfirm, hfind]
  cases s.findProposal n with
  | none => rfl
  | some k =>
    dsimp only
    cases s.proposals[k] with
    | none => rfl
    | some q =>
      dsimp only
      cases q.outcome with
      | some o => rfl
      | none =>
        exact BlindRequest.ite (c := fun _ => q.proposer = p) (fun _ _ _ => rfl) (.refused _)
          (blind_confirmProposal k q) s x g

theorem blind_applyWithdraw (p : Port) (n : Word16) : BlindRequest (applyWithdraw p n) := by
  intro s x g
  have hfind : ({ s with ports := x, lastGranted := g } : State).findProposal n = s.findProposal n := rfl
  simp only [applyWithdraw, hfind]
  cases s.findProposal n with
  | none => rfl
  | some k =>
    dsimp only
    cases s.proposals[k] with
    | none => rfl
    | some q =>
      dsimp only
      cases q.outcome with
      | some o => rfl
      | none =>
        exact BlindRequest.ite (c := fun _ => q.proposer = p) (fun _ _ _ => rfl)
          ((State.blind_closeProposal k .withdrawn).request _) (.refused _) s x g

theorem blind_applyReadProposal (p : Port) (n : Word16) : BlindRequest (applyReadProposal p n) := by
  intro s x g
  have hfind : ({ s with ports := x, lastGranted := g } : State).findProposal n = s.findProposal n := rfl
  simp only [applyReadProposal, hfind]
  split
  · rfl
  · cases s.findProposal n with
    | none => rfl
    | some k =>
      dsimp only
      cases s.proposals[k] with
      | none => rfl
      | some q =>
        dsimp only
        split <;> rfl

/-! ## Every request -/

/-- The request of a command looks at no slot and writes none (R5, R160). -/
theorem blind_commandRequest (c : Instr) (ps : List Byte) : BlindRequest (commandRequest c ps) := by
  have hident : ∀ (ident : List Byte → List Byte) ps, State.Unseen (fun _ => ident ps) := fun _ _ _ _ _ => rfl
  cases c with
  | define p => exact .structural blind_applyDefine _ _ _ _ ps
  | retire p => exact .structural blind_applyRetire _ _ _ _ ps
  | tune p => exact .structural blind_applyTune _ _ _ _ ps
  | clear p => exact .structural blind_applyClear _ _ _ _ ps
  | report p => exact .direct (blind_applyReport p) (hident _) _ ps
  | ack p => exact .direct (blind_applyAck p) (hident _) _ ps
  | setWindow p => exact .structural blind_applySetWindow _ _ _ _ ps
  | joinPair p => exact .structural blind_applyJoinPair _ _ _ _ ps
  | bindInput p => exact .structural blind_applyBind _ _ _ _ ps
  | freeze p => exact .direct blind_applyFreeze (hident _) _ ps
  | confirm p => exact .direct (blind_applyConfirm p) (hident _) _ ps
  | withdraw p => exact .direct (blind_applyWithdraw p) (hident _) _ ps
  | readProposal p => exact .direct (blind_applyReadProposal p) (hident _) _ ps
  | audit p => exact .direct blind_applyAudit (ident := fun s _ => s.auditIdent) (fun _ _ _ _ => rfl) _ ps
  | startWindow | stopWindow | presetWindow | unfreeze | setAutosave =>
    exact .structural (fun _ _ _ _ => rfl) _ _ _ _ ps
  | setNotice | identify | readEntry | list | readVerdict | readHistory | readWindow | readInput | readRetention
  | readAudit => exact .direct (fun _ _ _ _ => rfl) (hident _) _ ps
  | _ => exact fun _ _ _ => rfl

end Sys2Proof.Machine
end

section
/-! PROOFS. A PORT RESET frame: malformed, whole, and inside a request of its port (O52). -/

namespace Sys2Proof.Machine

/-! ## Malformed frames (R156) -/

theorem judgePortReset_wrong {x : Byte} (hx : x ≠ 0x66) : judgePortReset [x] = .badCheck := if_neg hx

theorem judgePortReset_long (y : Byte) (rest : List Byte) : judgePortReset (0x66 :: y :: rest) = .overlong := rfl

/-- A frame wrong in both ways has one of the two results; which one is a free value (log entry 12). -/
theorem judgePortReset_wrong_long {x : Byte} (hx : x ≠ 0x66) (y : Byte) (rest : List Byte) :
    judgePortReset (x :: y :: rest) = .badCheck ∨ judgePortReset (x :: y :: rest) = .overlong := by
  simp only [judgePortReset, if_neg hx]
  cases Config.longResetFrameIsOverlong (x :: y :: rest)
  · exact .inl rfl
  · exact .inr rfl

theorem exec_portReset_malformed {s : State} {p : Port} (hl : s.live = true)
    (hi : (s.ports.get p).ignoreFrame = false) {bytes : List Byte} {r : FrameResult} (hr : judgePortReset bytes = r)
    (hdone : r ≠ .resetDone) (during : Bool) :
    exec (.portReset p ⟨bytes, during⟩) s = .next
      (s.setPort p { s.ports.get p with frameResult := r, reply := zeros bytes.length }) := by
  show execPortReset p ⟨bytes, during⟩ s = _
  simp only [execPortReset, State.takeFrame_taken hl hi, hr, if_neg hdone]

/-! ## The proposals of a port freed (R112) -/

/-- Whether slot `k` holds a proposal of port `p`. -/
def State.proposedBy (s : State) (p : Port) (k : Fin 4) : Bool :=
  match s.proposals[k] with
  | some q => q.proposer == p
  | none => false

/-- `s` with the proposals in the slots of `gone` freed. -/
def State.freed (s : State) (gone : Fin 4 → Bool) : State :=
  { s with
    proposals := vec4 (fun k => if gone k then none else s.proposals[k])
    closingOrder := s.closingOrder.filter (fun k => !gone k)
    madeOrder := s.madeOrder.filter (fun k => !gone k) }

theorem State.freed_proposals (s : State) (gone : Fin 4 → Bool) (k : Fin 4) :
    (s.freed gone).proposals[k] = if gone k then none else s.proposals[k] := getElem_vec4 _ k

/-- `s` with these slots and orders written is `s` with the proposals of `gone` freed. -/
theorem State.eq_freed {s : State} {gone : Fin 4 → Bool} {slots : Vector (Option Proposal) 4} {closing made : List (Fin 4)}
    (hslots : ∀ k : Fin 4, slots[k] = if gone k then none else s.proposals[k])
    (hclosing : closing = s.closingOrder.filter (fun k => !gone k))
    (hmade : made = s.madeOrder.filter (fun k => !gone k)) :
    { s with proposals := slots, closingOrder := closing, madeOrder := made } = s.freed gone := by
  have hvector : slots = (s.freed gone).proposals :=
    Vector.ext (fun i hi => (hslots ⟨i, hi⟩).trans (s.freed_proposals gone ⟨i, hi⟩).symm)
  rw [hvector, hclosing, hmade]
  rfl

theorem State.freed_none (s : State) : s.freed (fun _ => false) = s :=
  (State.eq_freed (fun _ => rfl) (by simp) (by simp)).symm

theorem State.freed_freed (s : State) (a b : Fin 4 → Bool) :
    (s.freed a).freed b = s.freed (fun k => a k || b k) := by
  refine State.eq_freed (s := s) (fun k => ?_) ?_ ?_
  · rw [getElem_vec4, State.freed_proposals]
    cases a k <;> cases b k <;> rfl
  all_goals simp only [State.freed, List.filter_filter, Bool.not_or, Bool.and_comm]

theorem State.freeProposal_eq_freed (s : State) (k : Fin 4) : s.freeProposal k = s.freed (fun j => j == k) :=
  State.eq_freed (s := s) (gone := fun j => j == k) (slots := s.proposals.set k none)
    (fun j => by simp only [vector_getElem_set, beq_iff_eq]) rfl rfl

theorem State.proposedBy_freed (s : State) (gone : Fin 4 → Bool) (p : Port) (k : Fin 4) :
    (s.freed gone).proposedBy p k = (!gone k && s.proposedBy p k) := by
  simp only [State.proposedBy, State.freed_proposals]
  cases gone k <;> rfl

/-- A walk over slots frees those among them that hold a proposal of the port. -/
theorem State.foldl_freeProposal (p : Port) (ks : List (Fin 4)) (s : State) :
    ks.foldl (fun t k => if t.proposedBy p k then t.freeProposal k else t) s =
      s.freed (fun k => ks.contains k && s.proposedBy p k) := by
  induction ks generalizing s with
  | nil => exact s.freed_none.symm
  | cons k ks ih =>
    rw [List.foldl_cons, ih]
    by_cases hk : s.proposedBy p k = true
    · rw [if_pos hk, State.freeProposal_eq_freed, State.freed_freed]
      congr 1
      funext j
      rw [State.proposedBy_freed, List.contains_cons]
      by_cases hj : j = k
      · simp [hj, hk]
      · rw [beq_false_of_ne hj]; rfl
    · rw [if_neg hk]
      congr 1
      funext j
      rw [List.contains_cons]
      by_cases hj : j = k
      · simp [hj, hk]
      · rw [beq_false_of_ne hj]; rfl

theorem State.freeProposalsOf_eq_freed (s : State) (p : Port) : s.freeProposalsOf p = s.freed (s.proposedBy p) := by
  have hstep : s.freeProposalsOf p =
      allFour.foldl (fun t k => if t.proposedBy p k then t.freeProposal k else t) s := by
    unfold State.freeProposalsOf
    congr 1
    funext t k
    unfold State.proposedBy
    cases t.proposals[k] <;> simp
  have hall : ∀ k, allFour.contains k = true := by decide
  rw [hstep, State.foldl_freeProposal]
  simp only [hall, Bool.true_and]

/-! ## A whole frame (R91, R112, R123, R157) -/

/-- `s` after a whole PORT RESET frame of port `p`. -/
def State.portEmptied (s : State) (p : Port) : State :=
  { s.freed (s.proposedBy p) with
    ports := s.ports.set p ⟨Slot.reset, .resetDone, [0, 0], (s.ports.get p).ignoreFrame⟩
    notices := s.notices.set p Notice.reset
    mode := s.mode.removePort p }

theorem State.resetPort_eq_portEmptied (s : State) (p : Port) :
    State.resetPort (s.setPort p { s.ports.get p with frameResult := .resetDone, reply := zeros 1 }) p =
      s.portEmptied p := by
  simp only [State.resetPort, State.freeProposalsOf_eq_freed, State.setSlot, State.setPort, State.setNotice, State.freed,
    perPort_get_set, perPort_set_set, if_true]
  rfl

section
variable {s : State} {p : Port}

theorem exec_portReset_whole (hl : s.live = true) (hi : (s.ports.get p).ignoreFrame = false) :
    exec (.portReset p ⟨[0x66], false⟩) s = .next (s.portEmptied p) := by
  show execPortReset p ⟨[0x66], false⟩ s = _
  simp only [execPortReset, State.takeFrame_taken hl hi]
  exact congrArg Host.Outcome.next (s.resetPort_eq_portEmptied p)

/-- With no request of the port to meet, the operand does nothing (log entry 33). -/
theorem exec_portReset_unmet {during : Bool}
    (h : during = false ∨ s.ready = false ∨ s.nextGrant ≠ some p ∨ (s.slot p).code ∈ [(0x60 : Byte), 0x22])
    (bytes : List Byte) : exec (.portReset p ⟨bytes, during⟩) s = exec (.portReset p ⟨bytes, false⟩) s := by
  refine execPortReset_plain ?_ bytes
  obtain rfl | hrequest := h
  · rfl
  · have hmeets : s.resetMeetsRequest p = false := by
      refine State.canTake_eq_false (hrequest.imp_right (Or.imp_right (fun hcode => ?_)))
      simp only [List.mem_cons, List.not_mem_nil, or_false] at hcode
      obtain hcode | hcode := hcode <;> rw [hcode] <;> rfl
    rw [hmeets, Bool.and_false]

end

/-! ## The port leaves the saves (R123) -/

theorem RetentionMode.removePort_of_not_saving {m : RetentionMode} (h : ∀ sv w, m ≠ .saving sv w) (p : Port) :
    m.removePort p = m := by
  cases m with
  | saving sv w => exact absurd rfl (h sv w)
  | _ => rfl

theorem PortSet.any_iff (x : PortSet) : x.any = true ↔ ∃ q, x.get q = true := by
  simp only [PortSet.any, Bool.or_eq_true, or_assoc]
  constructor
  · rintro (h | h | h)
    · exact ⟨.a, h⟩
    · exact ⟨.b, h⟩
    · exact ⟨.c, h⟩
  · rintro ⟨q, h⟩
    cases q
    · exact .inl h
    · exact .inr (.inl h)
    · exact .inr (.inr h)

/-- A pending save without port `p` still has a requester or an internal cause. -/
def PendingSave.WantedWithout (x : PendingSave) (p : Port) : Prop :=
  (∃ q, (x.requesters.set p false).get q = true) ∨ x.causes.worsen = true ∨ x.causes.interval = true ∨
    x.causes.powerFail = true ∨ x.causes.repair = true

theorem PendingSave.wantedWithout_iff (x : PendingSave) (p : Port) :
    x.WantedWithout p ↔ (PortSet.any (x.requesters.set p false) || x.causes.internal) = true := by
  simp only [WantedWithout, Bool.or_eq_true, PortSet.any_iff, Causes.internal, or_assoc]

theorem RetentionMode.removePort_wanted {sv : Save} {x : PendingSave} {p : Port} (h : x.WantedWithout p) :
    (RetentionMode.saving sv (some x)).removePort p =
      .saving { sv with requesters := sv.requesters.set p false } (some ⟨x.requesters.set p false, x.causes⟩) := by
  simp only [RetentionMode.removePort, if_pos ((x.wantedWithout_iff p).mp h)]

theorem RetentionMode.removePort_unwanted {sv : Save} {x : PendingSave} {p : Port} (h : ¬ x.WantedWithout p) :
    (RetentionMode.saving sv (some x)).removePort p =
      .saving { sv with requesters := sv.requesters.set p false } none := by
  simp only [RetentionMode.removePort, if_neg (fun hany => h ((x.wantedWithout_iff p).mpr hany))]

/-! ## A frame inside a request of its port (R151, R158) -/

theorem effectOf_known {c : Instr} {p : Port} {code : Byte} (hc : portAndCode c = some (p, code)) (hsave : code ≠ 0x60)
    (hnotice : code ≠ 0x22) (ps : List Byte) (s : State) : effectOf p code ps s = (commandRequest c ps s).1 := by
  cases c <;> cases hc
  case save => exact absurd rfl hsave
  case setNotice => exact absurd rfl hnotice
  case identify | readEntry | list | readVerdict | readHistory | readWindow | readInput | readRetention | readAudit =>
    exact (commandRequest_reads (p := p) (by simp [readingCommands]) ps s).symm
  all_goals rfl

/-- What the request that a PORT RESET meets still does is the effect of its command, a known one or not. -/
theorem effectOf_eq {c : Instr} {p : Port} {code : Byte}
    (hc : portAndCode c = some (p, code) ∨ c = .unknownCommand p ∧ ∀ d, portAndCode d ≠ some (p, code))
    (hsave : code ≠ 0x60) (hnotice : code ≠ 0x22) (ps : List Byte) (s : State) :
    effectOf p code ps s = (commandRequest c ps s).1 := by
  obtain hc | ⟨rfl, hnone⟩ := hc
  · exact effectOf_known hc hsave hnotice ps s
  · obtain h | ⟨d, hd, -, -⟩ := effectOf_cases p code ps s
    · exact h
    · exact absurd hd (hnone d)

/-- A command with a granted code is its request, taken at its grant. -/
theorem State.Granted.exec_request {s : State} {c : Instr} {p : Port} {code : Byte} {ps : List Byte}
    (h : s.Granted p code ps)
    (hc : portAndCode c = some (p, code) ∨ c = .unknownCommand p ∧ ∀ d, portAndCode d ≠ some (p, code))
    (hsave : code ≠ 0x60) :
    ∃ a, exec c s = .next ((commandRequest c ps (s.grant p)).1.placeAnswer p a) := by
  obtain hc | ⟨rfl, hnone⟩ := hc
  · rw [exec_command hc hsave, State.takeCommand_of_granted (test := fun x => x == code) h (beq_self_eq_true code)]
    exact ⟨_, rfl⟩
  · have hunknown : (!knownCodes.contains code) = true := by
      have hmem : code ∉ knownCodes := fun hmem => by
        obtain ⟨d, hd⟩ := (mem_knownCodes_iff p code).mp hmem
        exact hnone d hd
      simpa using hmem
    exact ⟨_, congrArg Host.Outcome.next
      (State.takeCommand_of_granted (test := fun x => !knownCodes.contains x) h hunknown _)⟩

/-- `s` after a whole PORT RESET frame of port `p`, with the command that the slot held before it. -/
def State.emptiedButSlot (s : State) (p : Port) : State :=
  { s.portEmptied p with
    ports := (s.portEmptied p).ports.set p { (s.portEmptied p).ports.get p with slot := s.slot p } }

theorem State.slot_emptiedButSlot (s : State) (p q : Port) : (s.emptiedButSlot p).slot q = s.slot q := by
  simp only [State.emptiedButSlot, State.portEmptied, State.slot, perPort_set_set, perPort_get_set]
  split
  · next hq => rw [hq]
  · rfl

theorem State.Granted.emptiedButSlot {s : State} {p : Port} {code : Byte} {ps : List Byte} (h : s.Granted p code ps) :
    (s.emptiedButSlot p).Granted p code ps where
  ready := by
    have hmode : s.mode.removePort p ≠ .loading ↔ s.mode ≠ .loading := not_congr (s.mode.removePort_loading p)
    have hready := h.ready
    simp only [State.ready, Bool.and_eq_true, bne_iff_ne] at hready ⊢
    exact ⟨hready.1, hmode.mpr hready.2⟩
  next := by
    have hsearch : (s.emptiedButSlot p).nextGrant = s.nextGrant := by
      unfold State.nextGrant
      simp only [State.slot_emptiedButSlot]
      rfl
    rw [hsearch]; exact h.next
  code := by rw [State.slot_emptiedButSlot]; exact h.code
  params := by rw [State.slot_emptiedButSlot]; exact h.params

theorem State.portEmptied_grant (s : State) (p : Port) :
    (s.grant p).portEmptied p = { s.portEmptied p with lastGranted := some p } := by
  simp only [State.portEmptied, State.grant_ports, perPort_get_set, perPort_set_set, if_true]
  rfl

section
variable {s : State} {p : Port}

/-- A frame that meets a request empties the port after the grant, and the request then has its effect (R158). -/
theorem exec_portReset_met (hl : s.live = true) (hi : (s.ports.get p).ignoreFrame = false) {code : Byte} {ps : List Byte}
    (h : s.Granted p code ps) (hsave : code ≠ 0x60) (hnotice : code ≠ 0x22) :
    exec (.portReset p ⟨[0x66], true⟩) s = .next (effectOf p code ps ((s.grant p).portEmptied p)) := by
  have hmeets : s.resetMeetsRequest p = true :=
    State.canTake_of_granted (test := fun x => x != 0x60 && x != 0x22) h
      ((Bool.and_eq_true _ _).mpr ⟨bne_iff_ne.mpr hsave, bne_iff_ne.mpr hnotice⟩)
  show execPortReset p ⟨[0x66], true⟩ s = _
  simp only [execPortReset, State.takeFrame_taken hl hi, hmeets, Bool.and_self, if_true]
  rw [← State.resetPort_eq_portEmptied, ← h.code, ← h.params]
  rfl

/-- That step is the reset followed by the command, but for the answer, which is not placed (R151). -/
theorem exec_portReset_met_eq_command (hl : s.live = true) (hi : (s.ports.get p).ignoreFrame = false) {c : Instr}
    {code : Byte} {ps : List Byte} (h : s.Granted p code ps)
    (hc : portAndCode c = some (p, code) ∨ c = .unknownCommand p ∧ ∀ d, portAndCode d ≠ some (p, code))
    (hsave : code ≠ 0x60) (hnotice : code ≠ 0x22) :
    ∃ v, exec c (s.emptiedButSlot p) = .next v ∧
      exec (.portReset p ⟨[0x66], true⟩) s = .next { v with ports := (s.portEmptied p).ports } := by
  obtain ⟨a, ha⟩ := h.emptiedButSlot.exec_request hc hsave
  refine ⟨_, ha, ?_⟩
  have hblind := blind_commandRequest c ps (s.portEmptied p)
  have hreset : (commandRequest c ps { s.portEmptied p with lastGranted := some p }).1 =
      { (commandRequest c ps (s.portEmptied p)).1 with
        ports := (s.portEmptied p).ports, lastGranted := some p } := congrArg Prod.fst (hblind _ _)
  have hcommand : (commandRequest c ps ((s.emptiedButSlot p).grant p)).1 =
      { (commandRequest c ps (s.portEmptied p)).1 with
        ports := ((s.emptiedButSlot p).grant p).ports, lastGranted := some p } := congrArg Prod.fst (hblind _ _)
  rw [exec_portReset_met hl hi h hsave hnotice, effectOf_eq hc hsave hnotice, State.portEmptied_grant, hreset,
    State.placeAnswer_ports, hcommand]

end

/-! ## What a whole frame leaves -/

theorem State.portEmptied_frame {s : State} {p : Port} (hi : (s.ports.get p).ignoreFrame = false) :
    s.portEmptied p =
      { s with
        ports := s.ports.set p ⟨Slot.reset, .resetDone, [0, 0], false⟩
        notices := s.notices.set p Notice.reset
        proposals := (s.portEmptied p).proposals
        closingOrder := s.closingOrder.filter (fun k => !s.proposedBy p k)
        madeOrder := s.madeOrder.filter (fun k => !s.proposedBy p k)
        mode := (s.portEmptied p).mode } := by
  simp only [State.portEmptied, State.freed, hi]

theorem State.portEmptied_mine {s : State} {p : Port} {k : Fin 4} (h : s.proposedBy p k = true) :
    (s.portEmptied p).proposals[k] = none := (s.freed_proposals _ k).trans (if_pos h)

theorem State.portEmptied_others {s : State} {p : Port} {k : Fin 4} (h : s.proposedBy p k = false) :
    (s.portEmptied p).proposals[k] = s.proposals[k] :=
  (s.freed_proposals _ k).trans (if_neg (Bool.eq_false_iff.mp h))

/-- Settles O52, by the judgement of the frame, the state it leaves, and the blindness of every request to its slot. -/
theorem portResetEmptiesItsPort : Obligations.PortResetEmptiesItsPort := by
  unfold Obligations.PortResetEmptiesItsPort
  intro s p bytes during hl hi
  dsimp only
  refine ⟨?_, ?_, ?_, ?_, ?_, ?_⟩
  · rintro rfl
    exact exec_portReset_malformed hl hi rfl (by decide) during
  · rintro x rfl hx
    exact exec_portReset_malformed hl hi (judgePortReset_wrong hx) (by decide) during
  · rintro y rest rfl
    exact exec_portReset_malformed hl hi (judgePortReset_long y rest) (by decide) during
  · rintro x y rest rfl hx
    exact (judgePortReset_wrong_long hx y rest).imp (fun hr => exec_portReset_malformed hl hi hr (by decide) during)
      (fun hr => exec_portReset_malformed hl hi hr (by decide) during)
  · rintro c code ps rfl rfl h hc hsave hnotice
    obtain ⟨v, hv, hreset⟩ := exec_portReset_met_eq_command hl hi h hc hsave hnotice
    exact ⟨s.portEmptied p, v, exec_portReset_whole hl hi, hv, hreset⟩
  · rintro rfl hunmet
    refine ⟨s.portEmptied p, (exec_portReset_unmet hunmet _).trans (exec_portReset_whole hl hi),
      State.portEmptied_frame hi, fun k => ?_, fun h => RetentionMode.removePort_of_not_saving h p, fun sv h => ?_,
      fun sv x h => ⟨fun hkept => ?_, fun hdropped => ?_⟩⟩
    · split
      · next hmine => exact State.portEmptied_mine hmine
      · next hother => exact State.portEmptied_others hother
    · exact congrArg (fun m => RetentionMode.removePort m p) h
    · exact (congrArg (fun m => RetentionMode.removePort m p) h).trans (RetentionMode.removePort_wanted hkept)
    · exact (congrArg (fun m => RetentionMode.removePort m p) h).trans (RetentionMode.removePort_unwanted hdropped)

end Sys2Proof.Machine
end

section
/-! PROOFS. The proposal slots under their operations: the numbers they hold, what closes, frees and discards, and what a
granted command does to the state it finds. -/

namespace Sys2Proof.Machine

/-! ## A granted command -/

/-- A granted command whose request looks at no slot has its effect on the state it finds, and is answered. -/
theorem State.takeCommand_request {s : State} {p : Port} {code : Byte} {ps : List Byte} (h : s.Granted p code ps)
    {test : Byte → Bool} (ht : test code = true) {request : List Byte → State → State × Answer}
    (hblind : BlindRequest (request ps)) :
    s.takeCommand p test request = (request ps s).1.answered p (request ps s).2 := by
  have hanswer : (request ps (s.grant p)).2 = (request ps s).2 :=
    (congrArg Prod.snd (hblind s (s.grant p).ports (some p)) :)
  exact State.takeCommand_effect h ht (f := fun u => (request ps u).1) (fun u x g => congrArg Prod.fst (hblind u x g))
    (Prod.ext rfl hanswer)

/-- A command of 10.2 other than SAVE, granted: its request on the state it finds, and the answer. -/
theorem State.Granted.exec_eq {s : State} {c : Instr} {p : Port} {code : Byte} {ps : List Byte}
    (h : s.Granted p code ps) (hc : portAndCode c = some (p, code)) (hsave : code ≠ 0x60) :
    exec c s = .next ((commandRequest c ps s).1.answered p (commandRequest c ps s).2) := by
  rw [exec_command hc hsave,
    State.takeCommand_request (test := (· == code)) h (beq_self_eq_true code) (blind_commandRequest c ps)]

/-! ## Structural commands at their grant (R6, R99) -/

/-- SAVE is no structural command. -/
theorem ne_save_of_structuralCode {code : Byte} {kind : StructuralCode} (h : structuralCode code = some kind) :
    code ≠ 0x60 := by
  rintro rfl
  cases h

theorem State.structural_of_parse {α : Type} (s : State) (p : Port) (code : StructuralCode)
    (ident : List Byte → List Byte) (parse : List Byte → Option α) (apply : α → State → State × Answer)
    {ps : List Byte} (h : (parse ps).isSome = true) :
    s.structural p code ident parse apply ps =
      if s.frozen = true then s.makeProposal p code ps else applyHeldWith ident parse apply ps s := by
  obtain ⟨x, hx⟩ := Option.isSome_iff_exists.mp h
  simp only [State.structural, applyHeldWith, hx]

/-- A structural command in range: a proposal on a frozen table, on an unfrozen one what the same command does when it
is held (R99, R104), but an UNFREEZE finds nothing to do (R109). -/
theorem commandRequest_structural {c : Instr} {p : Port} {code : Byte} {kind : StructuralCode} {ps : List Byte}
    (hc : portAndCode c = some (p, code)) (hkind : structuralCode code = some kind) (hb : blockOk code ps = true)
    (s : State) :
    commandRequest c ps s =
      if s.frozen = true then s.makeProposal p kind ps
      else if kind = .unfreeze then (s, ⟨.notFrozen, []⟩) else applyHeld kind ps s := by
  cases c <;> cases hc <;> cases hkind
  case define => exact s.structural_of_parse _ _ _ _ _ ((parseDefine_isSome ps).trans hb)
  case tune => exact s.structural_of_parse _ _ _ _ _ ((parseTune_isSome ps).trans hb)
  case retire | clear => exact s.structural_of_parse _ _ _ _ _ ((parseId_isSome ps).trans hb)
  case setWindow => exact s.structural_of_parse _ _ _ _ _ ((parseSetWindow_isSome ps).trans hb)
  case joinPair => exact s.structural_of_parse _ _ _ _ _ ((parseJoinPair_isSome ps).trans hb)
  case startWindow | stopWindow | presetWindow =>
    exact s.structural_of_parse _ _ _ _ _ ((parseCounter_isSome ps).trans hb)
  case bindInput => exact s.structural_of_parse _ _ _ _ _ ((parseBind_isSome ps).trans hb)
  case setAutosave => exact s.structural_of_parse _ _ _ _ _ ((parseAutosave_isSome ps).trans hb)
  case unfreeze =>
    obtain ⟨u, hu⟩ := exists_of_isSome (parseNone_isSome ps) hb
    refine (s.structural_of_parse p .unfreeze noIdent parseNone applyUnfreezeAtGrant (by rw [hu]; rfl)).trans ?_
    simp only [applyHeldWith, hu, applyUnfreezeAtGrant, if_true]

/-! ## The numbers in use (R99, R101, R103) -/

/-- The number that slot `k` holds, if it is in use. -/
def State.numberAt (s : State) (k : Fin 4) : Option Word16 := (s.proposals[k]).map Proposal.number

theorem State.numberAt_of_some {s : State} {k : Fin 4} {q : Proposal} (h : s.proposals[k] = some q) :
    s.numberAt k = some q.number := congrArg (Option.map Proposal.number) h

theorem State.numberAt_some_iff {s : State} {k : Fin 4} {n : Word16} :
    s.numberAt k = some n ↔ ∃ q, s.proposals[k] = some q ∧ q.number = n := Option.map_eq_some_iff

theorem State.numberAt_none_iff {s : State} {k : Fin 4} : s.numberAt k = none ↔ s.proposals[k] = none :=
  Option.map_eq_none_iff

theorem mem_allFour (k : Fin 4) : k ∈ allFour := by revert k; decide

theorem State.findProposal_eq (s : State) (n : Word16) :
    s.findProposal n = allFour.find? (fun k => s.numberAt k == some n) := by
  unfold State.findProposal
  congr 1
  funext k
  unfold State.numberAt
  cases s.proposals[k] <;> rfl

theorem State.numberInUse_iff (s : State) (n : Word16) : s.numberInUse n = true ↔ ∃ k, s.numberAt k = some n := by
  have hany : s.numberInUse n = allFour.any (fun k => s.numberAt k == some n) := by
    unfold State.numberInUse
    congr 1
    funext k
    unfold State.numberAt
    cases s.proposals[k] <;> rfl
  simp only [hany, List.any_eq_true, mem_allFour, true_and, beq_iff_eq]

theorem State.findProposal_none {s : State} {n : Word16} (h : ∀ k, s.numberAt k ≠ some n) :
    s.findProposal n = none := by
  rw [State.findProposal_eq, List.find?_eq_none]
  exact fun k _ hk => h k (eq_of_beq hk)

/-- The one slot that holds a number is found by it. -/
theorem State.findProposal_some {s : State} {n : Word16} {k : Fin 4} (hk : s.numberAt k = some n)
    (hone : ∀ j, s.numberAt j = some n → j = k) : s.findProposal n = some k := by
  cases hfind : s.findProposal n with
  | none =>
    rw [State.findProposal_eq, List.find?_eq_none] at hfind
    exact absurd (beq_iff_eq.mpr hk) (hfind k (mem_allFour k))
  | some j =>
    rw [State.findProposal_eq] at hfind
    have hj := List.find?_some hfind
    rw [hone j (eq_of_beq hj)]

/-! ## The next number (R101) -/

theorem succNumber_ne_zero (n : Word16) : succNumber n ≠ 0 := by
  unfold succNumber
  split
  · decide
  · bv_omega

theorem succNumber_toNat (n : Word16) : (succNumber n).toNat = if n.toNat = 65535 then 1 else n.toNat + 1 := by
  unfold succNumber
  split <;> split <;> bv_omega

/-- The numbers from one on count up, and go on from 65535 to 1 (R101). -/
theorem succNumber_iterate_toNat (n : Word16) {j : Nat} (hj : j ≤ 65534) :
    (succNumber^[j] n).toNat = if n.toNat + j ≤ 65535 then n.toNat + j else n.toNat + j - 65535 := by
  have hn := n.isLt
  induction j with
  | zero => rw [if_pos (by omega)]; rfl
  | succ j ih =>
    rw [Function.iterate_succ_apply', succNumber_toNat, ih (by omega)]
    split <;> split <;> split <;> omega

theorem succNumber_iterate_injective (n : Word16) {i j : Nat} (hi : i ≤ 65534) (hj : j ≤ 65534)
    (h : succNumber^[i] n = succNumber^[j] n) : i = j := by
  have hsame := congrArg BitVec.toNat h
  rw [succNumber_iterate_toNat n hi, succNumber_iterate_toNat n hj] at hsame
  split at hsame <;> split at hsame <;> omega

/-- The number picked is the first one, among as many as there is fuel for, that no slot in use holds. -/
theorem State.pickNumber_eq {s : State} {fuel j : Nat} {n : Word16} (hj : j ≤ fuel)
    (hused : ∀ i, i < j → s.numberInUse (succNumber^[i] n) = true)
    (hfree : s.numberInUse (succNumber^[j] n) = false) : s.pickNumber fuel n = succNumber^[j] n := by
  induction fuel generalizing j n with
  | zero => rw [Nat.le_zero.mp hj]; rfl
  | succ fuel ih =>
    cases j with
    | zero =>
      have hn : s.numberInUse n = false := hfree
      rw [State.pickNumber, hn]
      rfl
    | succ j =>
      have hn : s.numberInUse n = true := hused 0 (Nat.succ_pos j)
      rw [State.pickNumber, if_pos hn]
      exact ih (Nat.le_of_succ_le_succ hj) (fun i hi => hused (i + 1) (Nat.succ_lt_succ hi)) hfree

/-- With slot `k` FREE, one of any four numbers from one on is held by no slot (R101). -/
theorem State.exists_free_number {s : State} {k : Fin 4} (hk : s.numberAt k = none) (n : Word16) :
    ∃ j, j ≤ 3 ∧ s.numberInUse (succNumber^[j] n) = false ∧
      ∀ i, i < j → s.numberInUse (succNumber^[i] n) = true := by
  have hsome : ∃ j, j ≤ 3 ∧ s.numberInUse (succNumber^[j] n) = false := by
    by_contra hall
    have hheld : ∀ i : Fin 4, ∃ j, s.numberAt j = some (succNumber^[i.val] n) := fun i => by
      refine (s.numberInUse_iff _).mp (Bool.not_eq_false _ ▸ fun hfree => hall ⟨i, by omega, hfree⟩)
    choose slot hslot using hheld
    have hinjective : Function.Injective slot := fun i j hij => by
      have hsame := (hslot i).symm.trans ((congrArg s.numberAt hij).trans (hslot j))
      exact Fin.ext (succNumber_iterate_injective n (by omega) (by omega) (Option.some.inj hsame))
    obtain ⟨i, hi⟩ := Finite.surjective_of_injective hinjective k
    have hcontra := hslot i
    rw [hi, hk] at hcontra
    cases hcontra
  refine ⟨Nat.find hsome, (Nat.find_spec hsome).1, (Nat.find_spec hsome).2, fun i hi => ?_⟩
  have hmin := Nat.find_min hsome hi
  exact Bool.not_eq_false _ ▸ fun hfree => hmin ⟨(Nat.le_of_lt hi).trans (Nat.find_spec hsome).1, hfree⟩

/-! ## The state of a slot (R99, R100) -/

theorem State.isOpen_iff {s : State} {k : Fin 4} :
    s.isOpen k = true ↔ ∃ q, s.proposals[k] = some q ∧ q.outcome = none := by
  unfold State.isOpen
  cases s.proposals[k] with
  | none => simp
  | some q => simp

theorem State.isClosed_congr {s t : State} {k : Fin 4} (h : t.proposals[k] = s.proposals[k]) :
    t.isClosed k ↔ s.isClosed k := by
  unfold State.isClosed
  rw [h]

theorem State.isOpen_congr {s t : State} {k : Fin 4} (h : t.proposals[k] = s.proposals[k]) :
    t.isOpen k = s.isOpen k := by
  unfold State.isOpen
  rw [h]

theorem State.isClosed_of_some {s : State} {k : Fin 4} {q : Proposal} (h : s.proposals[k] = some q) :
    s.isClosed k ↔ q.outcome ≠ none := by
  constructor
  · rintro ⟨r, o, hr, ho⟩
    cases h.symm.trans hr
    rw [ho]
    exact fun hnone => nomatch hnone
  · intro hne
    obtain ⟨o, ho⟩ := Option.ne_none_iff_exists'.mp hne
    exact ⟨q, o, h, ho⟩

theorem State.not_isClosed_of_isOpen {s : State} {k : Fin 4} (h : s.isOpen k = true) : ¬ s.isClosed k := by
  obtain ⟨q, hq, ho⟩ := State.isOpen_iff.mp h
  rw [State.isClosed_of_some hq, ho]
  exact fun hne => hne rfl

/-! ## The slots in order -/

/-- What the proposal invariant asks of the slots alone: the next number and the numbers in use are not 0, those in use
differ, and each order names its slots, each once (R100, R101, R108). -/
structure State.SlotsOk (s : State) : Prop where
  next : s.nextNumber ≠ 0
  number : ∀ k, s.numberAt k ≠ some 0
  distinct : ∀ j k n, s.numberAt j = some n → s.numberAt k = some n → j = k
  closing : s.closingOrder.Nodup ∧ ∀ k, k ∈ s.closingOrder ↔ s.isClosed k
  made : s.madeOrder.Nodup ∧ ∀ k, k ∈ s.madeOrder ↔ (s.numberAt k).isSome = true

/-- The proposal invariant: the slots in order, no OPEN proposal on an unfrozen table, no proposal in a part that is
LOADING. -/
theorem State.proposalInv_iff (s : State) :
    s.ProposalInv ↔ s.SlotsOk ∧ (∀ k : Fin 4, s.isOpen k = true → s.frozen = true) ∧
      (s.mode = .loading → ∀ k : Fin 4, s.proposals[k] = none) := by
  constructor
  · rintro ⟨hnext, hnumber, hdistinct, hopen, hclosing, ⟨hnodup, hmade⟩, hloading⟩
    refine ⟨⟨hnext, fun k h0 => ?_, fun j k n hj hk => ?_, hclosing, hnodup, fun k => ?_⟩, hopen, hloading⟩
    · obtain ⟨q, hq, hn⟩ := State.numberAt_some_iff.mp h0
      exact hnumber k q hq hn
    · obtain ⟨q, hq, hn⟩ := State.numberAt_some_iff.mp hj
      obtain ⟨r, hr, hm⟩ := State.numberAt_some_iff.mp hk
      exact hdistinct j k q r hq hr (hn.trans hm.symm)
    · rw [hmade, State.numberAt, Option.isSome_map]
  · rintro ⟨⟨hnext, hnumber, hdistinct, hclosing, hnodup, hmade⟩, hopen, hloading⟩
    refine ⟨hnext, fun k q hq h0 => ?_, fun j k q r hq hr hn => ?_, hopen, hclosing, ⟨hnodup, fun k => ?_⟩, hloading⟩
    · exact hnumber k (h0 ▸ State.numberAt_of_some hq)
    · exact hdistinct j k _ (State.numberAt_of_some hq) (hn ▸ State.numberAt_of_some hr)
    · rw [hmade, State.numberAt, Option.isSome_map]

/-- Proposals that keep their numbers while some of them close. -/
theorem State.SlotsOk.of_numbers {s t : State} (h : s.SlotsOk) (hnext : t.nextNumber = s.nextNumber)
    (hnumbers : ∀ k, t.numberAt k = s.numberAt k) (hmade : t.madeOrder = s.madeOrder)
    (hclosing : t.closingOrder.Nodup ∧ ∀ k, k ∈ t.closingOrder ↔ t.isClosed k) : t.SlotsOk where
  next := hnext ▸ h.next
  number k := hnumbers k ▸ h.number k
  distinct j k n := by rw [hnumbers, hnumbers]; exact h.distinct j k n
  closing := hclosing
  made := by simp only [hnumbers, hmade]; exact h.made

/-! ## Closing one proposal (R100, R102) -/

theorem State.closeProposal_none {s : State} {k : Fin 4} (h : s.proposals[k] = none) (o : ProposalOutcome) :
    s.closeProposal k o = s := by
  simp only [State.closeProposal, h]

theorem State.closeProposal_some {s : State} {k : Fin 4} {q : Proposal} (h : s.proposals[k] = some q)
    (o : ProposalOutcome) :
    s.closeProposal k o =
      { s with proposals := s.proposals.set k (some { q with outcome := some o, remaining := 0 })
               closingOrder := s.closingOrder.filter (fun j => j != k) ++ [k] } := by
  simp only [State.closeProposal, h]
  rfl

/-- A proposal that is not in the closing order closes last in it (R100). -/
theorem State.closeProposal_open {s : State} {k : Fin 4} {q : Proposal} (h : s.proposals[k] = some q)
    (hk : k ∉ s.closingOrder) (o : ProposalOutcome) :
    s.closeProposal k o =
      { s with proposals := s.proposals.set k (some { q with outcome := some o, remaining := 0 })
               closingOrder := s.closingOrder ++ [k] } := by
  have hfilter : s.closingOrder.filter (fun j => j != k) = s.closingOrder :=
    List.filter_eq_self.mpr (fun j hj => bne_iff_ne.mpr (fun he => hk (he ▸ hj)))
  rw [State.closeProposal_some h, hfilter]

theorem State.closeProposal_proposals (s : State) (k : Fin 4) (o : ProposalOutcome) (j : Fin 4) :
    (s.closeProposal k o).proposals[j] =
      if j = k then (s.proposals[j]).map (fun q => { q with outcome := some o, remaining := 0 })
      else s.proposals[j] := by
  cases hk : s.proposals[k] with
  | none =>
    rw [State.closeProposal_none hk]
    split
    · next hj => rw [hj, hk]; rfl
    · rfl
  | some q =>
    rw [State.closeProposal_some hk, vector_getElem_set]
    split
    · next hj => rw [hj, hk]; rfl
    · rfl

theorem State.numberAt_closeProposal (s : State) (k : Fin 4) (o : ProposalOutcome) (j : Fin 4) :
    (s.closeProposal k o).numberAt j = s.numberAt j := by
  rw [State.numberAt, State.closeProposal_proposals]
  split
  · rw [Option.map_map]; rfl
  · rfl

theorem State.SlotsOk.closeProposal {s : State} (h : s.SlotsOk) (k : Fin 4) (o : ProposalOutcome) :
    (s.closeProposal k o).SlotsOk := by
  cases hk : s.proposals[k] with
  | none => rw [State.closeProposal_none hk]; exact h
  | some q =>
    have hslot := s.closeProposal_proposals k o
    have hnumber := s.numberAt_closeProposal k o
    rw [State.closeProposal_some hk] at hslot hnumber ⊢
    obtain ⟨hnodup, hclosed⟩ := h.closing
    refine h.of_numbers rfl hnumber rfl ⟨?_, fun j => ?_⟩
    · exact (hnodup.filter _).append (List.nodup_singleton k) (by simp)
    · by_cases hj : j = k
      · subst hj
        rw [State.isClosed_of_some ((hslot j).trans ((if_pos rfl).trans (congrArg _ hk)))]
        simp
      · rw [State.isClosed_congr ((hslot j).trans (if_neg hj)), ← hclosed j]
        simp [hj]

/-! ## Freeing proposals (R107, R112) -/

theorem State.SlotsOk.freed {s : State} (h : s.SlotsOk) (gone : Fin 4 → Bool) : (s.freed gone).SlotsOk := by
  have hnumber : ∀ k, (s.freed gone).numberAt k = if gone k then none else s.numberAt k := fun k => by
    rw [State.numberAt, State.freed_proposals]
    split <;> rfl
  have hkept : ∀ {k n}, (s.freed gone).numberAt k = some n → s.numberAt k = some n := fun {k n} hk => by
    rw [hnumber] at hk
    split at hk
    · cases hk
    · exact hk
  obtain ⟨hclosingNodup, hclosing⟩ := h.closing
  obtain ⟨hmadeNodup, hmade⟩ := h.made
  refine ⟨h.next, fun k hk => h.number k (hkept hk), fun j k n hj hk => h.distinct j k n (hkept hj) (hkept hk),
    ⟨hclosingNodup.filter _, fun k => ?_⟩, ⟨hmadeNodup.filter _, fun k => ?_⟩⟩
  · have hslot := s.freed_proposals gone k
    have hmem : k ∈ (s.freed gone).closingOrder ↔ s.isClosed k ∧ gone k = false := by
      simp only [State.freed, List.mem_filter, hclosing, Bool.not_eq_true']
    rw [hmem]
    cases hgone : gone k with
    | true =>
      rw [hgone, if_pos rfl] at hslot
      refine iff_of_false (fun h => nomatch h.2) ?_
      rintro ⟨q, o, hq, -⟩
      cases hslot.symm.trans hq
    | false =>
      rw [hgone, if_neg Bool.false_ne_true] at hslot
      rw [State.isClosed_congr hslot, and_iff_left rfl]
  · rw [hnumber]
    simp only [State.freed, List.mem_filter, hmade]
    cases gone k <;> simp

/-! ## Discarding every OPEN proposal (R110) -/

/-- A proposal DISCARDED if it is OPEN. -/
def Proposal.discard (q : Proposal) : Proposal :=
  if q.outcome = none then { q with outcome := some .discarded, remaining := 0 } else q

/-- `s` with the OPEN proposals among the slots `ks` closed as DISCARDED, in that order. -/
def State.discarded (s : State) (ks : List (Fin 4)) : State :=
  { s with
    proposals := vec4 (fun k => if k ∈ ks then (s.proposals[k]).map Proposal.discard else s.proposals[k])
    closingOrder := s.closingOrder ++ ks.filter s.isOpen }

theorem State.discarded_proposals (s : State) (ks : List (Fin 4)) (k : Fin 4) :
    (s.discarded ks).proposals[k] = if k ∈ ks then (s.proposals[k]).map Proposal.discard else s.proposals[k] :=
  getElem_vec4 _ k

theorem State.eq_discarded {s : State} {ks : List (Fin 4)} {slots : Vector (Option Proposal) 4} {closing : List (Fin 4)}
    (hslots : ∀ k : Fin 4, slots[k] = if k ∈ ks then (s.proposals[k]).map Proposal.discard else s.proposals[k])
    (hclosing : closing = s.closingOrder ++ ks.filter s.isOpen) :
    { s with proposals := slots, closingOrder := closing } = s.discarded ks := by
  have hvector : slots = (s.discarded ks).proposals :=
    Vector.ext (fun i hi => (hslots ⟨i, hi⟩).trans (s.discarded_proposals ks ⟨i, hi⟩).symm)
  rw [hvector, hclosing]
  rfl

/-- A slot that is not OPEN is not touched. -/
theorem State.map_discard_of_not_open {s : State} {k : Fin 4} (h : s.isOpen k = false) :
    (s.proposals[k]).map Proposal.discard = s.proposals[k] := by
  cases hk : s.proposals[k] with
  | none => rfl
  | some q =>
    have ho : q.outcome ≠ none := fun ho => by
      rw [State.isOpen_iff.mpr ⟨q, hk, ho⟩] at h
      cases h
    simp only [Option.map_some, Proposal.discard, if_neg ho]

theorem State.discarded_cons_of_not_open {s : State} {k : Fin 4} {ks : List (Fin 4)} (hk : k ∉ ks)
    (h : ¬ s.isOpen k = true) : s.discarded ks = s.discarded (k :: ks) := by
  refine State.eq_discarded (s := s) (fun j => ?_) (by rw [List.filter_cons_of_neg h])
  rw [getElem_vec4]
  by_cases hj : j = k
  · subst hj
    rw [if_neg hk, if_pos List.mem_cons_self, State.map_discard_of_not_open (Bool.eq_false_iff.mpr h)]
  · simp only [List.mem_cons, hj, false_or]

/-- One OPEN proposal closed before those of other slots. -/
theorem State.discarded_cons_of_open {s : State} {k : Fin 4} {ks : List (Fin 4)} (hk : k ∉ ks) (h : s.isOpen k = true)
    (hclosing : k ∉ s.closingOrder) : (s.closeProposal k .discarded).discarded ks = s.discarded (k :: ks) := by
  obtain ⟨q, hq, ho⟩ := State.isOpen_iff.mp h
  have hslot := s.closeProposal_proposals k .discarded
  have hfilter : ks.filter (s.closeProposal k .discarded).isOpen = ks.filter s.isOpen :=
    List.filter_congr (fun j hj => State.isOpen_congr ((hslot j).trans (if_neg (fun he : j = k => hk (he ▸ hj)))))
  rw [State.closeProposal_open hq hclosing] at hslot hfilter ⊢
  unfold State.discarded
  rw [hfilter]
  refine State.eq_discarded (s := s) (fun j => ?_) (by rw [List.filter_cons_of_pos h, List.append_assoc]; rfl)
  rw [getElem_vec4, hslot]
  by_cases hj : j = k
  · subst hj
    rw [if_neg hk, if_pos rfl, if_pos List.mem_cons_self, hq]
    simp only [Option.map_some, Proposal.discard, if_pos ho]
  · simp only [List.mem_cons, hj, false_or, if_false]

/-- Slots walked over once, none of them OPEN and yet in the closing order. -/
theorem State.foldl_discard {ks : List (Fin 4)} (hks : ks.Nodup) {s : State}
    (hopen : ∀ k ∈ ks, s.isOpen k = true → k ∉ s.closingOrder) :
    ks.foldl (fun t k => if t.isOpen k then t.closeProposal k .discarded else t) s = s.discarded ks := by
  induction ks generalizing s with
  | nil => exact State.eq_discarded (fun k => (if_neg List.not_mem_nil).symm) (List.append_nil _).symm
  | cons k ks ih =>
    obtain ⟨hk, hks⟩ := List.nodup_cons.mp hks
    rw [List.foldl_cons]
    split
    · next ho =>
      have hclosing := hopen k List.mem_cons_self ho
      rw [ih hks, State.discarded_cons_of_open hk ho hclosing]
      intro j hj hjo
      have hne : j ≠ k := fun he => hk (he ▸ hj)
      rw [State.isOpen_congr ((s.closeProposal_proposals k .discarded j).trans (if_neg hne))] at hjo
      obtain ⟨q, hq, -⟩ := State.isOpen_iff.mp ho
      rw [State.closeProposal_open hq hclosing, List.mem_append, List.mem_singleton]
      exact not_or.mpr ⟨hopen j (List.mem_cons_of_mem k hj) hjo, hne⟩
    · next ho =>
      rw [ih hks (fun j hj => hopen j (List.mem_cons_of_mem k hj)), State.discarded_cons_of_not_open hk ho]

theorem State.SlotsOk.discardOpen_eq {s : State} (h : s.SlotsOk) : s.discardOpen = s.discarded s.madeOrder :=
  State.foldl_discard h.made.1 (fun k _ ho hk => State.not_isClosed_of_isOpen ho ((h.closing.2 k).mp hk))

/-- Every slot in use is in the made order, so that every OPEN proposal is discarded. -/
theorem State.SlotsOk.discardOpen_proposals {s : State} (h : s.SlotsOk) (k : Fin 4) :
    s.discardOpen.proposals[k] = (s.proposals[k]).map Proposal.discard := by
  rw [h.discardOpen_eq, State.discarded_proposals]
  split
  · rfl
  · next hk =>
    have hnone : s.proposals[k] = none :=
      State.numberAt_none_iff.mp (Option.not_isSome_iff_eq_none.mp (fun hsome => hk ((h.made.2 k).mpr hsome)))
    rw [hnone]
    rfl

theorem Proposal.discard_outcome (q : Proposal) : q.discard.outcome ≠ none := by
  unfold Proposal.discard
  split
  · exact fun h => nomatch h
  · next h => exact h

theorem State.SlotsOk.not_isOpen_discardOpen {s : State} (h : s.SlotsOk) (k : Fin 4) :
    ¬ s.discardOpen.isOpen k = true := fun hopen => by
  obtain ⟨q, hq, ho⟩ := State.isOpen_iff.mp hopen
  rw [h.discardOpen_proposals] at hq
  obtain ⟨r, -, rfl⟩ := Option.map_eq_some_iff.mp hq
  exact r.discard_outcome ho

theorem State.SlotsOk.discardOpen {s : State} (h : s.SlotsOk) : s.discardOpen.SlotsOk := by
  have hslot := h.discardOpen_proposals
  obtain ⟨hclosingNodup, hclosing⟩ := h.closing
  obtain ⟨hmadeNodup, hmade⟩ := h.made
  have hnumber : ∀ k, s.discardOpen.numberAt k = s.numberAt k := fun k => by
    rw [State.numberAt, hslot, Option.map_map]
    refine congrArg (fun f => (s.proposals[k]).map f) (funext (fun q => ?_))
    simp only [Function.comp_apply, Proposal.discard]
    split <;> rfl
  refine h.of_numbers (by rw [h.discardOpen_eq]; rfl) hnumber (by rw [h.discardOpen_eq]; rfl) ⟨?_, fun k => ?_⟩
  · rw [h.discardOpen_eq]
    refine hclosingNodup.append (hmadeNodup.filter _) (fun k hk hopen => ?_)
    exact State.not_isClosed_of_isOpen (List.mem_filter.mp hopen).2 ((hclosing k).mp hk)
  · have hmem : k ∈ s.discardOpen.closingOrder ↔ s.isClosed k ∨ k ∈ s.madeOrder ∧ s.isOpen k = true := by
      rw [h.discardOpen_eq, ← hclosing]
      simp only [State.discarded, List.mem_append, List.mem_filter]
    rw [hmem, hmade, State.numberAt, Option.isSome_map]
    have hk := hslot k
    cases hq : s.proposals[k] with
    | none =>
      rw [hq] at hk
      simp [State.isClosed, hk, hq]
    | some q =>
      rw [hq] at hk
      refine iff_of_true ?_ ((State.isClosed_of_some hk).mpr q.discard_outcome)
      by_cases ho : q.outcome = none
      · exact .inr ⟨rfl, State.isOpen_iff.mpr ⟨q, hq, ho⟩⟩
      · exact .inl ((State.isClosed_of_some hq).mpr ho)

/-! ## Steps that open nothing -/

/-- No proposal is opened from `s` to `t` and no FREE slot is taken; the slots stay in order, a frozen table stays
frozen and no load begins. -/
structure State.OpensNone (s t : State) : Prop where
  frozen : s.frozen = true → t.frozen = true
  loading : t.mode = .loading → s.mode = .loading
  opens : ∀ k : Fin 4, t.isOpen k = true → s.isOpen k = true
  empties : ∀ k : Fin 4, s.proposals[k] = none → t.proposals[k] = none
  slots : s.SlotsOk → t.SlotsOk

theorem State.OpensNone.refl (s : State) : s.OpensNone s := ⟨id, id, fun _ => id, fun _ => id, id⟩

theorem State.OpensNone.trans {s t u : State} (h : s.OpensNone t) (h' : t.OpensNone u) : s.OpensNone u :=
  ⟨h'.frozen ∘ h.frozen, h.loading ∘ h'.loading, fun k => h.opens k ∘ h'.opens k, fun k => h'.empties k ∘ h.empties k,
    h'.slots ∘ h.slots⟩

theorem State.OpensNone.proposalInv {s t : State} (h : s.OpensNone t) (hs : s.ProposalInv) : t.ProposalInv := by
  obtain ⟨hslots, hopen, hloading⟩ := s.proposalInv_iff.mp hs
  exact t.proposalInv_iff.mpr ⟨h.slots hslots, fun k hk => h.frozen (hopen k (h.opens k hk)),
    fun hm k => h.empties k (hloading (h.loading hm) k)⟩

theorem State.opensNone_closeProposal (s : State) (k : Fin 4) (o : ProposalOutcome) :
    s.OpensNone (s.closeProposal k o) := by
  have hframe : (s.closeProposal k o).frozen = s.frozen ∧ (s.closeProposal k o).mode = s.mode := by
    unfold State.closeProposal
    split <;> exact ⟨rfl, rfl⟩
  have hslot := s.closeProposal_proposals k o
  refine ⟨hframe.1 ▸ id, hframe.2 ▸ id, fun j hj => ?_, fun j hj => ?_, fun h => h.closeProposal k o⟩
  · by_cases hjk : j = k
    · obtain ⟨q, hq, ho⟩ := State.isOpen_iff.mp hj
      rw [hslot, if_pos hjk] at hq
      obtain ⟨r, -, rfl⟩ := Option.map_eq_some_iff.mp hq
      cases ho
    · rwa [State.isOpen_congr ((hslot j).trans (if_neg hjk))] at hj
  · rw [hslot, hj]
    split <;> rfl

theorem State.opensNone_freed (s : State) (gone : Fin 4 → Bool) : s.OpensNone (s.freed gone) := by
  have hslot := s.freed_proposals gone
  refine ⟨id, id, fun j hj => ?_, fun j hj => ?_, fun h => h.freed gone⟩
  · obtain ⟨q, hq, ho⟩ := State.isOpen_iff.mp hj
    rw [hslot] at hq
    split at hq
    · cases hq
    · exact State.isOpen_iff.mpr ⟨q, hq, ho⟩
  · rw [hslot, hj]
    exact ite_self none

theorem Proposal.tick_number (q : Proposal) : q.tick.number = q.number := by
  rw [Proposal.tick_eq]
  split <;> rfl

theorem Proposal.tick_outcome (q : Proposal) : q.tick.outcome = q.outcome := by
  rw [Proposal.tick_eq]
  split <;> rfl

/-- A tick moves remaining lifetimes alone (R102). -/
theorem opensNone_execTick {s t : State} (h : execTick s = .next t) : s.OpensNone t := by
  cases h
  split
  · have hslot : ∀ k : Fin 4, (vec4 (fun k => (s.proposals[k]).map Proposal.tick))[k] =
        (s.proposals[k]).map Proposal.tick := getElem_vec4 _
    refine ⟨id, id, fun k hk => ?_, fun k hk => (hslot k).trans (by rw [hk]; rfl),
      fun h => h.of_numbers rfl (fun k => ?_) rfl ⟨h.closing.1, fun k => (h.closing.2 k).trans ?_⟩⟩
    · obtain ⟨q, hq, ho⟩ := State.isOpen_iff.mp hk
      obtain ⟨r, hr, rfl⟩ := Option.map_eq_some_iff.mp ((hslot k).symm.trans hq)
      exact State.isOpen_iff.mpr ⟨r, hr, r.tick_outcome ▸ ho⟩
    · rw [State.numberAt, hslot, Option.map_map]
      exact congrArg (fun f => (s.proposals[k]).map f) (funext Proposal.tick_number)
    · simp only [State.isClosed, hslot, Option.map_eq_some_iff]
      constructor
      · rintro ⟨q, o, hq, ho⟩
        exact ⟨q.tick, o, ⟨q, hq, rfl⟩, q.tick_outcome.trans ho⟩
      · rintro ⟨_, o, ⟨q, hq, rfl⟩, ho⟩
        exact ⟨q, o, hq, q.tick_outcome ▸ ho⟩
  · exact .refl s

/-! ## Steps that leave the slots -/

/-- `t` holds the proposals of `s`, their orders, the next number and the frozen flag, on the same side of the load. -/
structure State.SameSlots (s t : State) : Prop where
  proposals : t.proposals = s.proposals
  closingOrder : t.closingOrder = s.closingOrder
  madeOrder : t.madeOrder = s.madeOrder
  nextNumber : t.nextNumber = s.nextNumber
  frozen : t.frozen = s.frozen
  loading : t.mode = .loading ↔ s.mode = .loading

theorem State.SameSlots.refl (s : State) : s.SameSlots s := ⟨rfl, rfl, rfl, rfl, rfl, Iff.rfl⟩

theorem State.SameSlots.trans {s t u : State} (h : s.SameSlots t) (h' : t.SameSlots u) : s.SameSlots u :=
  ⟨h'.proposals.trans h.proposals, h'.closingOrder.trans h.closingOrder, h'.madeOrder.trans h.madeOrder,
    h'.nextNumber.trans h.nextNumber, h'.frozen.trans h.frozen, h'.loading.trans h.loading⟩

theorem State.SlotsOk.of_fields {s t : State} (h : s.SlotsOk) (hproposals : t.proposals = s.proposals)
    (hclosing : t.closingOrder = s.closingOrder) (hmade : t.madeOrder = s.madeOrder)
    (hnext : t.nextNumber = s.nextNumber) : t.SlotsOk := by
  have hslot : ∀ k : Fin 4, t.proposals[k] = s.proposals[k] := fun k => by rw [hproposals]
  refine h.of_numbers hnext (fun k => congrArg (Option.map Proposal.number) (hslot k)) hmade ?_
  simp only [hclosing, State.isClosed_congr (hslot _)]
  exact h.closing

theorem State.SameSlots.opensNone {s t : State} (h : s.SameSlots t) : s.OpensNone t where
  frozen hf := h.frozen.trans hf
  loading := h.loading.mp
  opens k hk := by rwa [State.isOpen_congr (s := s) (by rw [h.proposals])] at hk
  empties k hk := by rw [h.proposals]; exact hk
  slots hs := hs.of_fields h.proposals h.closingOrder h.madeOrder h.nextNumber

/-! ### The shared operations -/

/-- A step that leaves the verdict, with a frame that leaves the slots. -/
theorem State.Steady.sameSlots {s t u : State} (h : s.Steady t) (hframe : t = u)
    (hproposals : u.proposals = s.proposals) (hclosing : u.closingOrder = s.closingOrder) (hmade : u.madeOrder = s.madeOrder)
    (hnext : u.nextNumber = s.nextNumber) (hfrozen : u.frozen = s.frozen) : s.SameSlots t := by
  subst hframe
  exact ⟨hproposals, hclosing, hmade, hnext, hfrozen, h.ring.loading⟩

theorem State.sameSlots_placeAnswer (s : State) (p : Port) (a : Answer) : s.SameSlots (s.placeAnswer p a) :=
  (s.steady_placeAnswer p a).sameSlots (s.placeAnswer_ports p a) rfl rfl rfl rfl rfl

theorem State.sameSlots_setPort (s : State) (p : Port) (u : PortUnit) : s.SameSlots (s.setPort p u) :=
  ⟨rfl, rfl, rfl, rfl, rfl, Iff.rfl⟩

theorem State.sameSlots_grant (s : State) (p : Port) : s.SameSlots (s.grant p) := ⟨rfl, rfl, rfl, rfl, rfl, Iff.rfl⟩

theorem State.sameSlots_setInput (s : State) (i : Fin 4) (e : EventInput) : s.SameSlots (s.setInput i e) :=
  ⟨rfl, rfl, rfl, rfl, rfl, Iff.rfl⟩

theorem State.sameSlots_setCounter (s : State) (w : Fin 8) (c : Counter) : s.SameSlots (s.setCounter w c) :=
  ⟨rfl, rfl, rfl, rfl, rfl, Iff.rfl⟩

theorem State.sameSlots_markSettings (s : State) : s.SameSlots s.markSettings :=
  ⟨rfl, rfl, rfl, rfl, rfl, s.mode.withdrawSettings_loading⟩

theorem State.sameSlots_zeroTallies (s : State) (w : Fin 8) : s.SameSlots (s.zeroTallies w) :=
  ⟨rfl, rfl, rfl, rfl, rfl, Iff.rfl⟩

theorem State.sameSlots_writeEntries (s : State) (f : Entry → Option Entry) : s.SameSlots (s.writeEntries f) :=
  ⟨rfl, rfl, rfl, rfl, rfl, s.mode.withdrawIds_loading _⟩

theorem State.sameSlots_definitionChange (s : State) : s.SameSlots s.definitionChange :=
  s.steady_definitionChange.sameSlots s.regrades_definitionChange.frame rfl rfl rfl rfl rfl

theorem State.sameSlots_recompute (s : State) (c : Cause) : s.SameSlots (s.recompute c) := by
  have hchange : s.SameSlots (s.changeVerdict (deriveVerdict s.table) c) := ⟨rfl, rfl, rfl, rfl, rfl, Iff.rfl⟩
  obtain ⟨-, h⟩ | ⟨-, -, h⟩ | ⟨-, -, h⟩ := s.recompute_cases c <;> rw [h]
  · exact .refl s
  · exact hchange
  · exact hchange.trans
      ((State.steady_requestSave _ _).sameSlots (State.regrades_requestSave _ _).frame rfl rfl rfl rfl rfl)

/-- A change of definitions, with the recomputation after it. -/
theorem State.SameSlots.redefined {s t : State} (h : s.SameSlots t) (c : Cause) :
    s.SameSlots (t.definitionChange.recompute c) :=
  (h.trans t.sameSlots_definitionChange).trans (State.sameSlots_recompute _ c)

/-! ### The structural commands applied (R104) -/

theorem sameSlots_applyDefine (x : DefineParams) (s : State) : s.SameSlots (applyDefine x s).1 := by
  have hadd : s.SameSlots (s.addEntry x.entry) := ⟨rfl, rfl, rfl, rfl, rfl, s.mode.withdrawIds_loading _⟩
  unfold applyDefine
  split
  · exact .refl s
  · split
    · exact .refl s
    · split
      · exact .refl s
      · exact hadd.redefined _

theorem sameSlots_applyRetire (id : Byte) (s : State) : s.SameSlots (applyRetire id s).1 := by
  have hdrop : s.SameSlots ((s.dropEntry id).unbindAll id) := ⟨rfl, rfl, rfl, rfl, rfl, s.mode.withdrawIds_loading _⟩
  unfold applyRetire
  split
  · exact .refl s
  · exact (hdrop.trans (State.sameSlots_markSettings _)).redefined _

theorem sameSlots_applyTune (x : TuneParams) (s : State) : s.SameSlots (applyTune x s).1 := by
  unfold applyTune
  split
  · exact .refl s
  · split
    · exact .refl s
    · exact (s.sameSlots_writeEntries _).redefined _

theorem sameSlots_applyClear (id : Byte) (s : State) : s.SameSlots (applyClear id s).1 := by
  unfold applyClear
  split
  · exact .refl s
  · exact (s.sameSlots_writeEntries _).trans (State.sameSlots_recompute _ _)

theorem sameSlots_applySetWindow (x : SetWindowParams) (s : State) : s.SameSlots (applySetWindow x s).1 := by
  unfold applySetWindow
  dsimp only
  split
  · exact .refl s
  · exact ((s.sameSlots_setCounter _ _).trans (State.sameSlots_setCounter _ _ _)).trans (State.sameSlots_markSettings _)

theorem sameSlots_applyJoinPair (x : Fin 4 × Bool) (s : State) : s.SameSlots (applyJoinPair x s).1 := by
  have hpreset : s.SameSlots ((s.pairStopped x.1 x.2).presetCounter (lowOf x.1)) := ⟨rfl, rfl, rfl, rfl, rfl, Iff.rfl⟩
  obtain ⟨k, on⟩ := x
  rw [applyJoinPair_eq]
  split
  · exact .refl s
  · split
    · exact .refl s
    · exact (hpreset.trans (State.sameSlots_zeroTallies _ _)).trans (State.sameSlots_markSettings _)

theorem State.sameSlots_setRunning (s : State) (w : Fin 8) (on : Bool) : s.SameSlots (s.setRunning w on) :=
  (s.sameSlots_setCounter _ _).trans (State.sameSlots_markSettings _)

theorem sameSlots_applyPresetWindow (w : Fin 8) (s : State) : s.SameSlots (applyPresetWindow w s).1 :=
  (s.sameSlots_setCounter _ _).trans (State.sameSlots_zeroTallies _ _)

theorem sameSlots_applyBind (x : BindParams) (s : State) : s.SameSlots (applyBind x s).1 := by
  have hbind : s.SameSlots (s.bind x) := (s.sameSlots_setInput _ _).trans (State.sameSlots_markSettings _)
  unfold applyBind
  split
  · exact hbind
  · split
    · exact .refl s
    · split
      · exact .refl s
      · exact hbind
      · exact hbind

theorem sameSlots_applySetAutosave (x : Bool × Word16) (s : State) : s.SameSlots (applySetAutosave x s).1 :=
  State.SameSlots.trans (t := State.reloadTimer { s with autosaveOnWorsen := x.1, autosaveInterval := x.2 })
    ⟨rfl, rfl, rfl, rfl, rfl, Iff.rfl⟩ (State.sameSlots_markSettings _)

theorem sameSlots_applyHeldWith {α : Type} {s : State} {ident : List Byte → List Byte} {parse : List Byte → Option α}
    {apply : α → State → State × Answer} (ps : List Byte) (h : ∀ x, s.SameSlots (apply x s).1) :
    s.SameSlots (applyHeldWith ident parse apply ps s).1 := by
  unfold applyHeldWith
  split
  · exact h _
  · exact .refl s

/-- A held UNFREEZE is applied, unless it carries parameters (R109). -/
theorem applyHeld_unfreeze_cases (ps : List Byte) (s : State) :
    applyHeld .unfreeze ps s = applyUnfreeze () s ∨ applyHeld .unfreeze ps s = (s, ⟨.badParam, []⟩) := by
  cases ps with
  | nil => exact .inl rfl
  | cons x ps => exact .inr rfl

/-- A held command has no part in the proposals, but an UNFREEZE that is applied thaws the table (R109). -/
theorem sameSlots_applyHeld {code : StructuralCode} {ps : List Byte} {s : State}
    (h : ¬ (code = .unfreeze ∧ (applyHeld code ps s).2.status = .ok)) : s.SameSlots (applyHeld code ps s).1 := by
  cases code with
  | define => exact sameSlots_applyHeldWith ps (fun x => sameSlots_applyDefine x s)
  | retire => exact sameSlots_applyHeldWith ps (fun id => sameSlots_applyRetire id s)
  | tune => exact sameSlots_applyHeldWith ps (fun x => sameSlots_applyTune x s)
  | clear => exact sameSlots_applyHeldWith ps (fun id => sameSlots_applyClear id s)
  | setWindow => exact sameSlots_applyHeldWith ps (fun x => sameSlots_applySetWindow x s)
  | joinPair => exact sameSlots_applyHeldWith ps (fun x => sameSlots_applyJoinPair x s)
  | startWindow => exact sameSlots_applyHeldWith ps (fun w => s.sameSlots_setRunning w true)
  | stopWindow => exact sameSlots_applyHeldWith ps (fun w => s.sameSlots_setRunning w false)
  | presetWindow => exact sameSlots_applyHeldWith ps (fun w => sameSlots_applyPresetWindow w s)
  | bindInput => exact sameSlots_applyHeldWith ps (fun x => sameSlots_applyBind x s)
  | setAutosave => exact sameSlots_applyHeldWith ps (fun x => sameSlots_applySetAutosave x s)
  | unfreeze =>
    obtain hok | hbad := applyHeld_unfreeze_cases ps s
    · exact absurd ⟨rfl, by rw [hok]; rfl⟩ h
    · rw [hbad]; exact .refl s

/-! ## A proposal made (R99 to R101) -/

theorem State.findSlot_of_newSlot {s : State} {k : Fin 4} (h : s.newSlot k) : s.findSlot = some k := by
  have hslot : ∀ j : Fin 4, (s.proposals[j]).isNone = true ↔ s.proposals[j] = none := fun j => Option.isNone_iff_eq_none
  obtain ⟨hk, hlower⟩ | ⟨hused, hhead⟩ := h
  · have hfind : allFour.find? (fun j => (s.proposals[j]).isNone) = some k := by
      cases hf : allFour.find? (fun j => (s.proposals[j]).isNone) with
      | none => exact absurd ((hslot k).mpr hk) (List.find?_eq_none.mp hf k (mem_allFour k))
      | some j =>
        obtain ⟨hj, before, after, hall, hbefore⟩ := List.find?_eq_some_iff_append.mp hf
        have hsorted : (before ++ j :: after).Pairwise (· < ·) := hall ▸ by decide
        obtain hmem | rfl | hmem := (List.mem_append.trans (or_congr_right List.mem_cons)).mp (hall ▸ mem_allFour k)
        · exact absurd (hbefore k hmem) (by simp [hk])
        · rfl
        · obtain ⟨-, hafter, -⟩ := List.pairwise_append.mp hsorted
          exact absurd ((hslot j).mp hj) (hlower j (List.rel_of_pairwise_cons hafter hmem))
    simp only [State.findSlot, hfind]
  · have hfind : allFour.find? (fun j => (s.proposals[j]).isNone) = none :=
      List.find?_eq_none.mpr (fun j _ hj => hused j ((hslot j).mp hj))
    simp only [State.findSlot, hfind, hhead]

theorem State.numberAt_freeProposal (s : State) (k j : Fin 4) :
    (s.freeProposal k).numberAt j = if j = k then none else s.numberAt j := by
  rw [State.freeProposal_eq_freed, State.numberAt, State.freed_proposals]
  by_cases hj : j = k <;> simp [hj, State.numberAt]

theorem State.heldElsewhere_iff (s : State) (k : Fin 4) (n : Word16) :
    s.heldElsewhere k n ↔ (s.freeProposal k).numberInUse n = true := by
  simp only [State.heldElsewhere, State.numberInUse_iff, State.numberAt_freeProposal]
  refine exists_congr (fun j => ?_)
  by_cases hj : j = k
  · simp [hj]
  · simp [hj, State.numberAt_some_iff]

/-- `s` with a new OPEN proposal of this number in slot `k`, which is the latest one made. -/
def State.proposed (s : State) (k : Fin 4) (n : Word16) (p : Port) (code : StructuralCode) (ps : List Byte) : State :=
  { s with
    proposals := s.proposals.set k (some ⟨n, p, code, ps, s.lifetime.toNat, none⟩)
    closingOrder := s.closingOrder.filter (fun j => j != k)
    madeOrder := s.madeOrder.filter (fun j => j != k) ++ [k]
    nextNumber := succNumber n }

/-- The proposal made in a slot has the first number from the next one on that no other slot in use holds (R101). -/
theorem State.makeProposal_some {s : State} {k : Fin 4} (h : s.findSlot = some k) (p : Port) (code : StructuralCode)
    (ps : List Byte) :
    ∃ n j, j ≤ 3 ∧ n = succNumber^[j] s.nextNumber ∧ ¬ s.heldElsewhere k n ∧
      (∀ i, i < j → s.heldElsewhere k (succNumber^[i] s.nextNumber)) ∧
      s.makeProposal p code ps = (s.proposed k n p code ps, ⟨.proposed, be16 n ++ be16 s.lifetime⟩) := by
  have hfreed : (s.freeProposal k).numberAt k = none := (s.numberAt_freeProposal k k).trans (if_pos rfl)
  obtain ⟨j, hj, hfree, hused⟩ := State.exists_free_number hfreed s.nextNumber
  refine ⟨_, j, hj, rfl, ?_, fun i hi => (s.heldElsewhere_iff k _).mpr (hused i hi), ?_⟩
  · rw [State.heldElsewhere_iff, hfree]
    exact Bool.false_ne_true
  · have hpick : (s.freeProposal k).pickNumber 5 s.nextNumber = succNumber^[j] s.nextNumber :=
      State.pickNumber_eq (by omega) hused hfree
    have hnext : (s.freeProposal k).nextNumber = s.nextNumber := rfl
    have hset : (s.freeProposal k).proposals = s.proposals.set k none := rfl
    simp only [State.makeProposal, h, State.setProposal, hset, Vector.set_set]
    rw [hnext, hpick]
    rfl

end Sys2Proof.Machine
end

section
/-! PROOFS. Proposal numbers distinct and OPEN proposals on a frozen table alone, through every step (O9). -/

namespace Sys2Proof.Machine

/-! ## Proposals made -/

/-- A new proposal under a number that is not 0 and that no other slot in use holds (R100, R101). -/
theorem State.SlotsOk.proposed {s : State} (h : s.SlotsOk) {k : Fin 4} {n : Word16} (hn : n ≠ 0)
    (hfree : ¬ s.heldElsewhere k n) (p : Port) (code : StructuralCode) (ps : List Byte) :
    (s.proposed k n p code ps).SlotsOk := by
  have hslot : ∀ j : Fin 4, (s.proposed k n p code ps).proposals[j] =
      if j = k then some ⟨n, p, code, ps, s.lifetime.toNat, none⟩ else s.proposals[j] := fun j =>
    vector_getElem_set _ k j _
  have hnumber : ∀ j, (s.proposed k n p code ps).numberAt j = if j = k then some n else s.numberAt j := fun j => by
    rw [State.numberAt, hslot]
    split <;> rfl
  have helsewhere : ∀ {j}, j ≠ k → s.numberAt j ≠ some n := fun {j} hj hheld => by
    obtain ⟨q, hq, hqn⟩ := State.numberAt_some_iff.mp hheld
    exact hfree ⟨j, q, hj, hq, hqn⟩
  obtain ⟨hclosingNodup, hclosing⟩ := h.closing
  obtain ⟨hmadeNodup, hmade⟩ := h.made
  refine ⟨succNumber_ne_zero n, fun j hj => ?_, fun i j m hi hj => ?_, ⟨hclosingNodup.filter _, fun j => ?_⟩,
    ⟨(hmadeNodup.filter _).append (List.nodup_singleton k) (by simp), fun j => ?_⟩⟩
  · rw [hnumber] at hj
    split at hj
    · exact hn (Option.some.inj hj)
    · exact h.number j hj
  · rw [hnumber] at hi hj
    split at hi <;> split at hj
    · next hik hjk => exact hik.trans hjk.symm
    · next hjk => exact absurd (hj.trans hi.symm) (helsewhere hjk)
    · next hik _ => exact absurd (hi.trans hj.symm) (helsewhere hik)
    · exact h.distinct i j m hi hj
  · have hmem : j ∈ (s.proposed k n p code ps).closingOrder ↔ s.isClosed j ∧ j ≠ k := by
      simp only [State.proposed, List.mem_filter, hclosing, bne_iff_ne]
    rw [hmem]
    by_cases hj : j = k
    · rw [State.isClosed_of_some ((hslot j).trans (if_pos hj))]
      exact iff_of_false (fun hand => hand.2 hj) (fun hne => hne rfl)
    · rw [State.isClosed_congr ((hslot j).trans (if_neg hj)), and_iff_left hj]
  · rw [hnumber]
    simp only [State.proposed, List.mem_append, List.mem_filter, hmade, bne_iff_ne, List.mem_singleton]
    by_cases hj : j = k <;> simp [hj]

/-- A structural command on a frozen table (R99). -/
theorem State.ProposalInv.makeProposal {s : State} (hs : s.ProposalInv) (hf : s.frozen = true) (hm : s.mode ≠ .loading)
    (p : Port) (code : StructuralCode) (ps : List Byte) : (s.makeProposal p code ps).1.ProposalInv := by
  obtain ⟨hslots, -, -⟩ := s.proposalInv_iff.mp hs
  cases hslot : s.findSlot with
  | none => simpa only [State.makeProposal, hslot] using hs
  | some k =>
    obtain ⟨n, j, -, hn, hfree, -, hmade⟩ := State.makeProposal_some hslot p code ps
    have hn0 : n ≠ 0 := by
      cases j with
      | zero => rw [hn]; exact hslots.next
      | succ j => rw [hn, Function.iterate_succ_apply']; exact succNumber_ne_zero _
    rw [hmade]
    exact (State.proposalInv_iff _).mpr ⟨hslots.proposed hn0 hfree p code ps, fun _ _ => hf, fun h => absurd h hm⟩

/-- With every OPEN proposal discarded the table may be frozen or not (R110). -/
theorem State.SlotsOk.proposalInv_discardOpen {s : State} (h : s.SlotsOk) (hm : s.mode ≠ .loading) :
    s.discardOpen.ProposalInv := by
  have hmode : s.discardOpen.mode = s.mode := by rw [h.discardOpen_eq]; rfl
  exact (State.proposalInv_iff _).mpr
    ⟨h.discardOpen, fun k hk => absurd hk (h.not_isOpen_discardOpen k), fun hl => absurd (hmode ▸ hl) hm⟩

/-! ## Requests -/

section
variable {s : State} (hs : s.ProposalInv)
include hs

/-- A structural command: refused, made a proposal, or applied (R6, R99). -/
theorem State.ProposalInv.structuralRequest (hm : s.mode ≠ .loading) {c : Instr} {p : Port} {code : Byte}
    {kind : StructuralCode} (hc : portAndCode c = some (p, code)) (hkind : structuralCode code = some kind)
    (ps : List Byte) : (commandRequest c ps s).1.ProposalInv := by
  cases hb : blockOk code ps with
  | false =>
    rw [commandRequest_bad hc (ne_save_of_structuralCode hkind) hb]
    exact hs
  | true =>
    rw [commandRequest_structural hc hkind hb]
    split
    · next hf => exact hs.makeProposal hf hm p kind ps
    · split
      · exact hs
      · next hne => exact (sameSlots_applyHeld (fun h => hne h.1)).opensNone.proposalInv hs

theorem State.ProposalInv.direct {α : Type} {ident : List Byte → List Byte} {parse : List Byte → Option α}
    {apply : α → State → State × Answer} (ps : List Byte) (h : ∀ x, (apply x s).1.ProposalInv) :
    (s.direct ident parse apply ps).1.ProposalInv := by
  unfold State.direct
  split
  · exact hs
  · exact h _

/-- The proposal that a CONFIRM applies closes; an UNFREEZE discards the others, so that none stands OPEN on a thawed
table (R104, R110). -/
theorem State.ProposalInv.confirmProposal (hm : s.mode ≠ .loading) (k : Fin 4) (q : Proposal) :
    (s.confirmProposal k q).1.ProposalInv := by
  obtain ⟨hslots, -, -⟩ := s.proposalInv_iff.mp hs
  unfold State.confirmProposal
  dsimp only
  split
  · next h =>
    obtain ⟨hcode, hok⟩ := h
    rw [hcode] at hok ⊢
    obtain happlied | hbad := applyHeld_unfreeze_cases q.params s
    · rw [happlied]
      have hthawed : (applyUnfreeze () s).1.SlotsOk := hslots.of_fields rfl rfl rfl rfl
      have hclosed := State.opensNone_closeProposal (applyUnfreeze () s).1 k (.applied .ok)
      exact (hclosed.slots hthawed).proposalInv_discardOpen
        (fun hl => hm (s.mode.withdrawSettings_loading.mp (hclosed.loading hl)))
    · rw [hbad] at hok
      cases hok
  · next h =>
    exact ((sameSlots_applyHeld h).opensNone.trans (State.opensNone_closeProposal _ _ _)).proposalInv hs

theorem proposalInv_applyConfirm (hm : s.mode ≠ .loading) (p : Port) (n : Word16) :
    (applyConfirm p n s).1.ProposalInv := by
  unfold applyConfirm
  split
  · exact hs
  · split
    · exact hs
    · split
      · exact hs
      · split
        · exact hs
        · exact hs.confirmProposal hm _ _

end

theorem opensNone_applyFreeze (l : Word16) (s : State) : s.OpensNone (applyFreeze l s).1 := by
  unfold applyFreeze
  split
  · exact .refl s
  · exact ⟨fun _ => rfl, s.mode.withdrawSettings_loading.mp, fun _ => id, fun _ => id,
      fun h => h.of_fields rfl rfl rfl rfl⟩

theorem opensNone_applyWithdraw (p : Port) (n : Word16) (s : State) : s.OpensNone (applyWithdraw p n s).1 := by
  unfold applyWithdraw
  split
  · exact .refl s
  · split
    · exact .refl s
    · split
      · exact .refl s
      · split
        · exact s.opensNone_closeProposal _ _
        · exact .refl s

theorem opensNone_applyReadProposal (p : Port) (n : Word16) (s : State) :
    s.OpensNone (applyReadProposal p n s).1 := by
  unfold applyReadProposal
  split
  · exact .refl s
  · split
    · exact .refl s
    · split
      · exact .refl s
      · dsimp only
        split
        · rw [State.freeProposal_eq_freed]
          exact s.opensNone_freed _
        · exact .refl s

theorem sameSlots_applyReport (p : Port) (items : List (Byte × Word16)) (s : State) :
    s.SameSlots (applyReport p items s).1 := by
  have hitems : s.SameSlots (applyItems s items) := by
    induction items generalizing s with
    | nil => exact .refl s
    | cons item items ih => exact (s.sameSlots_writeEntries _).trans (ih _)
  unfold applyReport
  split
  · exact .refl s
  · exact hitems.trans (State.sameSlots_recompute _ _)

theorem sameSlots_audit (p : Port) (ps : List Byte) (s : State) :
    s.SameSlots (commandRequest (.audit p) ps s).1 := by
  have hsteady : s.Steady (requestAudit p ps s).1 := by
    unfold requestAudit State.direct
    split
    · exact .refl s
    · exact steady_applyAudit _ s
  obtain ⟨m, a, hframe⟩ := commandRequest_audit p ps s
  exact hsteady.sameSlots hframe rfl rfl rfl rfl rfl

/-- The request of a command of 10.2, taken by a part that is not LOADING. -/
theorem proposalInv_commandRequest (c : Instr) (ps : List Byte) {s : State} (hs : s.ProposalInv)
    (hm : s.mode ≠ .loading) : (commandRequest c ps s).1.ProposalInv := by
  have hreads : ∀ {p}, c ∈ readingCommands p → (commandRequest c ps s).1.ProposalInv := fun hc => by
    rw [commandRequest_reads hc]
    exact hs
  have hnotice : ∀ {p}, c ∈ [Instr.ack p, .setNotice p] → (commandRequest c ps s).1.ProposalInv := fun hc => by
    obtain ⟨n, hn⟩ := commandRequest_notice hc ps s
    rw [hn]
    exact State.OpensNone.proposalInv (State.SameSlots.opensNone ⟨rfl, rfl, rfl, rfl, rfl, Iff.rfl⟩) hs
  cases c with
  | define p | retire p | tune p | clear p | setWindow p | joinPair p | startWindow p | stopWindow p | presetWindow p
  | bindInput p | setAutosave p | unfreeze p => exact hs.structuralRequest (p := p) hm rfl rfl ps
  | report p => exact hs.direct ps (fun items => (sameSlots_applyReport p items s).opensNone.proposalInv hs)
  | ack p | setNotice p => exact hnotice (p := p) (by simp)
  | freeze p => exact hs.direct ps (fun l => (opensNone_applyFreeze l s).proposalInv hs)
  | confirm p => exact hs.direct ps (fun n => proposalInv_applyConfirm hs hm p n)
  | withdraw p => exact hs.direct ps (fun n => (opensNone_applyWithdraw p n s).proposalInv hs)
  | readProposal p => exact hs.direct ps (fun n => (opensNone_applyReadProposal p n s).proposalInv hs)
  | audit p => exact (sameSlots_audit p ps s).opensNone.proposalInv hs
  | identify p | readEntry p | list p | readVerdict p | readHistory p | readWindow p | readInput p | readRetention p
  | readAudit p => exact hreads (p := p) (by simp [readingCommands])
  | _ => exact hs

/-! ## Every step -/

theorem State.not_loading_of_ready {s : State} (h : s.ready = true) : s.mode ≠ .loading := by
  simp only [State.ready, Bool.and_eq_true, bne_iff_ne] at h
  exact h.2

/-- A command is taken by a part that is READY, so it is not LOADING. -/
theorem State.ProposalInv.takeCommand {s : State} (hs : s.ProposalInv) {p : Port} {test : Byte → Bool}
    {request : List Byte → State → State × Answer}
    (h : ∀ ps {t : State}, t.ProposalInv → t.mode ≠ .loading → (request ps t).1.ProposalInv) :
    (s.takeCommand p test request).ProposalInv := by
  unfold State.takeCommand
  split
  · next htake =>
    have hmode := State.not_loading_of_ready ((s.canTake_iff p test).mp htake).1
    exact (State.sameSlots_placeAnswer _ _ _).opensNone.proposalInv
      (h _ ((s.sameSlots_grant p).opensNone.proposalInv hs) hmode)
  · exact hs

/-- A SAVE at the retention unit moves the slots and the unit alone. -/
theorem State.requestPortSave_frame (s : State) (p : Port) :
    s.requestPortSave p =
      { s with ports := (s.requestPortSave p).ports, mode := (s.requestPortSave p).mode
               imageInfo := (s.requestPortSave p).imageInfo, audit := (s.requestPortSave p).audit } := by
  have hanswer : ∀ a, s.placeAnswer p a =
      { s with ports := (s.placeAnswer p a).ports, mode := (s.placeAnswer p a).mode
               imageInfo := (s.placeAnswer p a).imageInfo, audit := (s.placeAnswer p a).audit } := fun a => by
    rw [s.placeAnswer_ports p a]
  unfold State.requestPortSave
  split
  · exact hanswer _
  · split
    · exact hanswer _
    · rfl
  · split
    · exact hanswer _
    · rfl
  · split
    · exact hanswer _
    · rfl
  · exact hanswer _
  · exact hanswer _

theorem sameSlots_execSave (p : Port) {s t : State} (h : execSave p s = .next t) : s.SameSlots t := by
  cases h
  split
  · split
    · exact (s.sameSlots_grant p).trans ((State.steady_requestPortSave _ p).sameSlots
        (State.requestPortSave_frame _ p) rfl rfl rfl rfl rfl)
    · exact (s.sameSlots_grant p).trans (State.sameSlots_placeAnswer _ _ _)
  · exact .refl s

theorem proposalInv_exec_command {c : Instr} {p : Port} {code : Byte} (hc : portAndCode c = some (p, code))
    {s t : State} (hs : s.ProposalInv) (h : exec c s = .next t) : t.ProposalInv := by
  by_cases hsave : code = 0x60
  · obtain rfl := eq_save_of_code (hsave ▸ hc)
    exact (sameSlots_execSave p h).opensNone.proposalInv hs
  · rw [exec_command hc hsave] at h
    cases h
    exact hs.takeCommand (fun ps _ ht hm => proposalInv_commandRequest c ps ht hm)

/-! ### Frames -/

theorem State.OwnUnit.sameSlots {p : Port} {s t : State} (h : s.OwnUnit p t) : s.SameSlots t := by
  have hsame : s.SameSlots { s with ports := t.ports } := ⟨rfl, rfl, rfl, rfl, rfl, Iff.rfl⟩
  exact h.frame ▸ hsame

/-- A PORT RESET frees the proposals of its port (R112). -/
theorem State.opensNone_resetPort (s : State) (p : Port) : s.OpensNone (s.resetPort p) := by
  have hunit : s.SameSlots { s with mode := s.mode.removePort p } :=
    ⟨rfl, rfl, rfl, rfl, rfl, s.mode.removePort_loading p⟩
  have hport : ∀ t : State, t.SameSlots ((t.setNotice p Notice.reset).setSlot p Slot.reset) :=
    fun _ => ⟨rfl, rfl, rfl, rfl, rfl, Iff.rfl⟩
  unfold State.resetPort
  rw [State.freeProposalsOf_eq_freed]
  exact (hunit.opensNone.trans (State.opensNone_freed _ _)).trans (hport _).opensNone

theorem proposalInv_effectOf (p : Port) (code : Byte) (ps : List Byte) {s : State} (hs : s.ProposalInv)
    (hm : s.mode ≠ .loading) : (effectOf p code ps s).ProposalInv := by
  obtain h | ⟨c, -, -, h⟩ := effectOf_cases p code ps s <;> rw [h]
  · exact hs
  · exact proposalInv_commandRequest c ps hs hm

theorem proposalInv_execPortReset (p : Port) (frame : ResetFrame) {s t : State} (hs : s.ProposalInv)
    (h : execPortReset p frame s = .next t) : t.ProposalInv := by
  have hport : ∀ (u : State) (x : PortUnit), u.OpensNone (u.setPort p x) := fun u x =>
    (u.sameSlots_setPort p x).opensNone
  cases h
  unfold State.takeFrame
  dsimp only
  split
  · split
    · exact (hport s _).proposalInv hs
    · split
      · split
        · next hmeets =>
          obtain ⟨-, htake⟩ := Bool.and_eq_true_iff.mp hmeets
          have hmode := State.not_loading_of_ready ((s.canTake_iff p _).mp htake).1
          have hreset : ∀ u, s.OpensNone (((s.grant p).setPort p u).resetPort p) := fun u =>
            ((s.sameSlots_grant p).opensNone.trans (hport _ u)).trans (State.opensNone_resetPort _ p)
          exact proposalInv_effectOf _ _ _ ((hreset _).proposalInv hs) (fun hl => hmode ((hreset _).loading hl))
        · exact ((hport s _).trans (State.opensNone_resetPort _ p)).proposalInv hs
      · exact (hport s _).proposalInv hs
  · exact hs

/-! ### Reset and load -/

/-- A part restarted has the slots of the reset state (R113). -/
theorem State.proposalInv_restart (s : State) (array : PerImage Image) : (s.restart array).ProposalInv :=
  State.OpensNone.proposalInv (s := State.reset) (State.SameSlots.opensNone ⟨rfl, rfl, rfl, rfl, rfl, Iff.rfl⟩)
    reset_proposalInv

theorem proposalInv_execReset (cause : ResetCause) (cut : CutPoint) (faults : List ArrayFault) {s t : State}
    (hs : s.ProposalInv) (h : execReset cause cut faults s = .next t) : t.ProposalInv := by
  have hrst : s.SameSlots { s with rstAsserted := true } := ⟨rfl, rfl, rfl, rfl, rfl, Iff.rfl⟩
  have hports : ∀ (u : State) (x : PerPort PortUnit), u.SameSlots { u with ports := x } :=
    fun _ _ => ⟨rfl, rfl, rfl, rfl, rfl, Iff.rfl⟩
  cases h
  split
  · exact (hports _ _).opensNone.proposalInv (State.proposalInv_restart _ _)
  · split
    · exact State.proposalInv_restart _ _
    · exact hrst.opensNone.proposalInv hs

theorem State.SlotsOk.proposalInv_of_free {s : State} (h : s.SlotsOk) (hfree : ∀ k : Fin 4, s.proposals[k] = none) :
    s.ProposalInv := by
  refine s.proposalInv_iff.mpr ⟨h, fun k hk => ?_, fun _ => hfree⟩
  obtain ⟨q, hq, -⟩ := State.isOpen_iff.mp hk
  cases (hfree k).symm.trans hq

/-- The load writes the frozen flag and leaves LOADING with every slot FREE (R113, R118). -/
theorem proposalInv_execLoadEnd (upTo : LoadPoint) {s t : State} (hs : s.ProposalInv)
    (h : execLoadEnd upTo s = .next t) : t.ProposalInv := by
  obtain ⟨hslots, -, hloading⟩ := s.proposalInv_iff.mp hs
  cases h
  split
  · next hload =>
    have hfree := hloading (eq_of_beq (Bool.and_eq_true_iff.mp hload).2)
    have hbuild : (if s.loadBuilt then s else s.buildLoad).proposals = s.proposals ∧
        (if s.loadBuilt then s else s.buildLoad).SlotsOk := by
      have himage : s.loadImage.proposals = s.proposals ∧ s.loadImage.SlotsOk := by
        rw [s.loadImage_frame]
        exact ⟨rfl, hslots.of_fields rfl rfl rfl rfl⟩
      split
      · exact ⟨rfl, hslots⟩
      · unfold State.buildLoad State.loadVerdict
        dsimp only
        split
        · exact ⟨himage.1, himage.2.of_fields rfl rfl rfl rfl⟩
        · exact ⟨himage.1, himage.2.of_fields rfl rfl rfl rfl⟩
    have hfree' : ∀ k : Fin 4, (if s.loadBuilt then s else s.buildLoad).proposals[k] = none := by
      rw [hbuild.1]; exact hfree
    dsimp only
    split
    · exact hbuild.2.proposalInv_of_free hfree'
    · exact State.SlotsOk.proposalInv_of_free (hbuild.2.of_fields rfl rfl rfl rfl) hfree'
  · exact hs

/-! ### Time, inputs, counters and the retention unit -/

/-- A step that is taken or not. -/
theorem State.sameSlots_ite {s t : State} {c : Prop} [Decidable c] (h : s.SameSlots t) :
    s.SameSlots (if c then t else s) := by
  split
  · exact h
  · exact .refl s

theorem opensNone_execProposalExpiry (k : Fin 4) {s t : State} (h : execProposalExpiry k s = .next t) :
    s.OpensNone t := by
  cases h
  split
  · split
    · exact s.opensNone_closeProposal _ _
    · exact .refl s
  · exact .refl s

theorem sameSlots_execUptimeSecond {s t : State} (h : execUptimeSecond s = .next t) : s.SameSlots t := by
  cases h
  exact State.sameSlots_ite ⟨rfl, rfl, rfl, rfl, rfl, Iff.rfl⟩

theorem sameSlots_execRstNRelease (selected : PortSet) {s t : State} (h : execRstNRelease selected s = .next t) :
    s.SameSlots t := by
  cases h
  exact State.sameSlots_ite ⟨rfl, rfl, rfl, rfl, rfl, Iff.rfl⟩

theorem sameSlots_execEventInputEdge (i : Fin 4) (soon : Bool) {s t : State}
    (h : execEventInputEdge i soon s = .next t) : s.SameSlots t := by
  cases h
  split
  · exact .refl s
  · split
    · exact s.sameSlots_setInput _ _
    · split
      · exact s.sameSlots_setInput _ _
      · split
        · exact s.sameSlots_setInput _ _
        · split
          · exact (s.sameSlots_setInput _ _).trans (State.sameSlots_setInput _ _ _)
          all_goals exact s.sameSlots_setInput _ _

theorem sameSlots_execEventInputReturn (i : Fin 4) {s t : State} (h : execEventInputReturn i s = .next t) :
    s.SameSlots t := by
  cases h
  exact State.sameSlots_ite (s.sameSlots_setInput _ _)

theorem sameSlots_execFilterWidthElapsed (i : Fin 4) {s t : State} (h : execFilterWidthElapsed i s = .next t) :
    s.SameSlots t := by
  cases h
  exact State.sameSlots_ite (s.sameSlots_setInput _ _)

theorem sameSlots_execPulseFold (i : Fin 4) {s t : State} (h : execPulseFold i s = .next t) : s.SameSlots t := by
  have hfold : ∀ (u : State) id, u.SameSlots (u.foldEntry id) := fun u id =>
    ⟨rfl, rfl, rfl, rfl, rfl, u.mode.withdrawIds_loading _⟩
  cases h
  split
  · dsimp only
    split
    · split
      · exact ((s.sameSlots_setInput _ _).trans (hfold _ _)).trans (State.sameSlots_recompute _ _)
      · exact s.sameSlots_setInput _ _
    · exact s.sameSlots_setInput _ _
  · exact .refl s

theorem sameSlots_execWindowTickDecrement (w : Fin 8) {s t : State} (h : execWindowTickDecrement w s = .next t) :
    s.SameSlots t := by
  cases h
  split
  · split
    · exact (s.sameSlots_setCounter _ _).trans (State.sameSlots_setCounter _ _ _)
    · exact .refl s
  · exact .refl s

theorem sameSlots_execWindowEventDecrement (n : PulseCount) {s t : State}
    (h : execWindowEventDecrement n s = .next t) : s.SameSlots t := by
  cases h
  split
  · dsimp only
    split
    · exact (s.sameSlots_setInput _ _).trans (State.sameSlots_setCounter _ _ _)
    · exact s.sameSlots_setInput _ _
  · exact .refl s

/-- A request of a counter taken from it, the entries bound to it written and the verdict recomputed. -/
theorem State.sameSlots_counterRequest (s : State) (w : Fin 8) (x : Counter) (f : Entry → Option Entry) (c : Cause) :
    s.SameSlots (((s.setCounter w x).writeEntries f).recompute c) :=
  ((s.sameSlots_setCounter w x).trans (State.sameSlots_writeEntries _ f)).trans (State.sameSlots_recompute _ c)

theorem sameSlots_execWindowClose (w : Fin 8) {s t : State} (h : execWindowClose w s = .next t) : s.SameSlots t := by
  cases h
  split
  · split
    · exact s.sameSlots_counterRequest w _ _ _
    · exact .refl s
  all_goals exact .refl s

theorem sameSlots_execEarlyLook (w : Fin 8) {s t : State} (h : execEarlyLook w s = .next t) : s.SameSlots t := by
  cases h
  split
  · split
    · exact s.sameSlots_counterRequest w _ _ _
    · exact .refl s
  all_goals exact .refl s

/-- A step that leaves the verdict and moves the retention unit alone. -/
theorem State.Steady.sameSlots_timed {s t : State} (h : s.Steady t) (hframe : t = s.withTimedUnit t) : s.SameSlots t :=
  h.sameSlots hframe rfl rfl rfl rfl rfl

/-- Every command and event keeps the proposals consistent. -/
theorem proposalInv_exec (c : Instr) {s t : State} (hs : s.ProposalInv) (h : exec c s = .next t) : t.ProposalInv := by
  have hsame : s.SameSlots t → t.ProposalInv := fun hst => hst.opensNone.proposalInv hs
  have hopens : s.OpensNone t → t.ProposalInv := fun hst => hst.proposalInv hs
  cases hc : portAndCode c with
  | some x => exact proposalInv_exec_command (p := x.1) (code := x.2) hc hs h
  | none =>
    cases c with
    | unknownCommand p => cases h; exact hs.takeCommand (fun _ _ ht _ => ht)
    | commandFrame p bytes => cases h; exact hsame (State.ownUnit_takeFrame (fun _ => s.ownUnit_setPort p _)).sameSlots
    | poll p n => cases h; exact hsame (State.ownUnit_takeFrame (fun _ => s.ownUnit_setPort p _)).sameSlots
    | fetch p n => exact hsame (ownUnit_execFetch h).sameSlots
    | portReset p frame => exact proposalInv_execPortReset p frame hs h
    | badKindFrame p kind n => exact hsame (ownUnit_execBadKindFrame h).sameSlots
    | reset cause cut faults => exact proposalInv_execReset cause cut faults hs h
    | loadEnd upTo => exact proposalInv_execLoadEnd upTo hs h
    | pfwAssertion => exact hsame ((steady_execPfwAssertion h).sameSlots_timed (timed_execPfwAssertion h))
    | pfwRelease => exact hsame ((steady_execPfwRelease h).sameSlots_timed (timed_execPfwRelease h))
    | tick => exact hopens (opensNone_execTick h)
    | uptimeSecond => exact hsame (sameSlots_execUptimeSecond h)
    | proposalExpiry k => exact hopens (opensNone_execProposalExpiry k h)
    | intervalTimerExpiry =>
      exact hsame ((steady_execIntervalTimerExpiry h).sameSlots_timed (timed_execIntervalTimerExpiry h))
    | eventInputEdge i soon => exact hsame (sameSlots_execEventInputEdge i soon h)
    | eventInputReturn i => exact hsame (sameSlots_execEventInputReturn i h)
    | filterWidthElapsed i => exact hsame (sameSlots_execFilterWidthElapsed i h)
    | pulseFold i => exact hsame (sameSlots_execPulseFold i h)
    | windowTickDecrement w => exact hsame (sameSlots_execWindowTickDecrement w h)
    | windowEventDecrement n => exact hsame (sameSlots_execWindowEventDecrement n h)
    | windowClose w => exact hsame (sameSlots_execWindowClose w h)
    | earlyLook w => exact hsame (sameSlots_execEarlyLook w h)
    | saveEnd ok =>
      exact hsame ((steady_execSaveEnd ok h).sameSlots (saveMoves_execSaveEnd h).1.frame rfl rfl rfl rfl rfl)
    | auditSegmentEnd faults =>
      exact hsame ((steady_execAuditSegmentEnd faults h).sameSlots_timed (unitMoves_execAuditSegmentEnd h).timed)
    | lossOfPower cut => cases h; exact State.proposalInv_restart _ _
    | rstNRelease selected => exact hsame (sameSlots_execRstNRelease selected h)
    | openMarkingWritten =>
      exact hsame ((steady_execOpenMarkingWritten h).sameSlots_timed (unitMoves_execOpenMarkingWritten h).timed)
    | _ => cases hc

/-- Settles O9, command by command: proposals are made on a frozen table, close, are freed or stay, and an UNFREEZE
leaves none OPEN. -/
theorem stepKeepsProposalSlotsConsistent : Obligations.StepKeepsProposalSlotsConsistent := by
  unfold Obligations.StepKeepsProposalSlotsConsistent
  intro s t hs hstep
  obtain ⟨-, rfl⟩ | ⟨c, rest, -, hexec⟩ := step_cases hstep
  · exact hs
  · have hqueue : s.SameSlots { s with pending := rest } := ⟨rfl, rfl, rfl, rfl, rfl, Iff.rfl⟩
    exact proposalInv_exec c (hqueue.opensNone.proposalInv hs) hexec

end Sys2Proof.Machine
end

section
/-! PROOFS. On a frozen table: structural commands (O40), CONFIRM (O41), WITHDRAW and READ_PROPOSAL (O42). -/

namespace Sys2Proof.Machine

/-! ## Structural commands on a frozen table -/

/-- With every slot OPEN there is none to take (R100). -/
theorem State.makeProposal_full {s : State} (hused : ∀ k : Fin 4, s.proposals[k] ≠ none)
    (hclosing : s.closingOrder = []) (p : Port) (code : StructuralCode) (ps : List Byte) :
    s.makeProposal p code ps = (s, ⟨.proposalsFull, []⟩) := by
  have hfind : allFour.find? (fun j => (s.proposals[j]).isNone) = none :=
    List.find?_eq_none.mpr (fun j _ hj => hused j (Option.isNone_iff_eq_none.mp hj))
  have hslot : s.findSlot = none := by
    simp only [State.findSlot, hfind, hclosing, List.head?_nil]
  simp only [State.makeProposal, hslot]

/-- Settles O40: the slot that is taken, the number picked for it, and the state that the proposal leaves. -/
theorem structuralCommandsBecomeProposals : Obligations.StructuralCommandsBecomeProposals := by
  unfold Obligations.StructuralCommandsBecomeProposals
  refine ⟨fun c s p code kind ps hc hkind h hf hb => ?_, fun _ => rfl⟩
  have hexec : exec c s = .next ((s.makeProposal p kind ps).1.answered p (s.makeProposal p kind ps).2) := by
    rw [h.exec_eq hc (ne_save_of_structuralCode hkind), commandRequest_structural hc hkind hb, if_pos hf]
  refine ⟨fun k hk => ?_, fun hused hclosing => ?_⟩
  · obtain ⟨n, j, hj, hn, hfree, hheld, hmade⟩ := State.makeProposal_some (State.findSlot_of_newSlot hk) p kind ps
    refine ⟨n, j, hj, hn, hfree, hheld, ?_⟩
    rw [hexec, hmade]
    rfl
  · rw [hexec, State.makeProposal_full hused hclosing]

/-! ## The slot that holds a number -/

section
variable {s : State} {p : Port} {hi lo : Byte}

theorem State.findProposal_absent {n : Word16}
    (h : ∀ (k : Fin 4) (q : Proposal), s.proposals[k] = some q → q.number ≠ n) : s.findProposal n = none :=
  State.findProposal_none (fun k hk => by
    obtain ⟨q, hq, hn⟩ := State.numberAt_some_iff.mp hk
    exact h k q hq hn)

theorem State.ProposalInv.findProposal (hs : s.ProposalInv) {k : Fin 4} {q : Proposal} (hq : s.proposals[k] = some q) :
    s.findProposal q.number = some k := by
  obtain ⟨hslots, -, -⟩ := s.proposalInv_iff.mp hs
  exact State.findProposal_some (State.numberAt_of_some hq)
    (fun j hj => hslots.distinct j k _ hj (State.numberAt_of_some hq))

/-! ## CONFIRM (R103, R104, R110) -/

theorem State.Granted.exec_confirm (h : s.Granted p 0x52 [hi, lo]) :
    exec (.confirm p) s =
      .next ((applyConfirm p (hi ++ lo) s).1.answered p (applyConfirm p (hi ++ lo) s).2) := by
  rw [h.exec_eq rfl (by decide)]
  rfl

theorem applyConfirm_absent {n : Word16} (h : s.findProposal n = none) :
    applyConfirm p n s = (s, ⟨.noProposal, be16 n⟩) := by
  simp only [applyConfirm, h]

theorem applyConfirm_closed {n : Word16} {k : Fin 4} {q : Proposal} {o : ProposalOutcome}
    (h : s.findProposal n = some k) (hq : s.proposals[k] = some q) (ho : q.outcome = some o) :
    applyConfirm p n s = (s, ⟨.tooLate, be16 n ++ [o.toByte]⟩) := by
  simp only [applyConfirm, h, hq, ho]

theorem applyConfirm_open {n : Word16} {k : Fin 4} {q : Proposal} (h : s.findProposal n = some k)
    (hq : s.proposals[k] = some q) (ho : q.outcome = none) :
    applyConfirm p n s = if q.proposer = p then (s, ⟨.selfConfirm, be16 n⟩) else s.confirmProposal k q := by
  simp only [applyConfirm, h, hq, ho]

/-- A held command other than an UNFREEZE: its own effect, and its proposal closed last with its result. -/
theorem State.ProposalInv.confirmProposal_applied (hs : s.ProposalInv) {k : Fin 4} {q : Proposal}
    (hq : s.proposals[k] = some q) (ho : q.outcome = none) (hcode : q.code ≠ .unfreeze) :
    s.confirmProposal k q =
      ({ (applyHeld q.code q.params s).1 with
          proposals := s.proposals.set k
            (some { q with outcome := some (.applied (applyHeld q.code q.params s).2.status), remaining := 0 })
          closingOrder := s.closingOrder ++ [k] },
        ⟨(applyHeld q.code q.params s).2.status, be16 q.number ++ (applyHeld q.code q.params s).2.result⟩) := by
  have hsame : s.SameSlots (applyHeld q.code q.params s).1 := sameSlots_applyHeld (fun h => hcode h.1)
  have hslot : (applyHeld q.code q.params s).1.proposals[k] = some q := by rw [hsame.proposals]; exact hq
  have hk : k ∉ (applyHeld q.code q.params s).1.closingOrder := by
    rw [hsame.closingOrder]; exact hs.not_mem_closingOrder hq ho
  simp only [State.confirmProposal, hcode, false_and, if_false, State.closeProposal_open hslot hk, hsame.proposals,
    hsame.closingOrder]

/-- `s` thawed by the UNFREEZE that slot `k` holds, before the other OPEN proposals are discarded. -/
def State.thawed (s : State) (k : Fin 4) (q : Proposal) : State :=
  { s.settingsWritten with
    frozen := false
    proposals := s.proposals.set k (some { q with outcome := some (.applied .ok), remaining := 0 })
    closingOrder := s.closingOrder ++ [k] }

theorem State.ProposalInv.confirmProposal_unfreeze (hs : s.ProposalInv) {k : Fin 4} {q : Proposal}
    (hq : s.proposals[k] = some q) (ho : q.outcome = none) (hcode : q.code = .unfreeze) (hparams : q.params = []) :
    s.confirmProposal k q = ((s.thawed k q).discardOpen, ⟨.ok, be16 q.number⟩) := by
  have happlied : applyHeld .unfreeze [] s = applyUnfreeze () s := rfl
  have hclosed : (applyUnfreeze () s).1.closeProposal k (.applied .ok) = s.thawed k q :=
    State.closeProposal_open (s := (applyUnfreeze () s).1) hq (hs.not_mem_closingOrder hq ho) _
  have hok : (applyUnfreeze () s).2 = ⟨.ok, []⟩ := rfl
  simp only [State.confirmProposal, hcode, hparams, happlied, hok, hclosed, and_self, if_true, List.append_nil]

theorem State.thawed_proposals (s : State) (k : Fin 4) (q : Proposal) (j : Fin 4) :
    (s.thawed k q).proposals[j] =
      if j = k then some { q with outcome := some (.applied .ok), remaining := 0 } else s.proposals[j] :=
  vector_getElem_set _ k j _

theorem State.thawed_isOpen (s : State) (k : Fin 4) (q : Proposal) (j : Fin 4) :
    (s.thawed k q).isOpen j = (j != k && s.isOpen j) := by
  have hslot := s.thawed_proposals k q j
  by_cases hj : j = k
  · subst hj
    rw [if_pos rfl] at hslot
    rw [State.isOpen, hslot, bne_self_eq_false, Bool.false_and]
    rfl
  · rw [State.isOpen_congr (hslot.trans (if_neg hj)), bne_iff_ne.mpr hj, Bool.true_and]

theorem State.ProposalInv.thawed (hs : s.ProposalInv) {k : Fin 4} {q : Proposal} (hq : s.proposals[k] = some q)
    (ho : q.outcome = none) : (s.thawed k q).SlotsOk := by
  obtain ⟨hslots, -, -⟩ := s.proposalInv_iff.mp hs
  have hclosed := hslots.closeProposal k (.applied .ok)
  rw [State.closeProposal_open hq (hs.not_mem_closingOrder hq ho)] at hclosed
  exact hclosed.of_fields rfl rfl rfl rfl

/-- What the confirmed UNFREEZE leaves (R110). -/
theorem State.ProposalInv.thawed_discardOpen (hs : s.ProposalInv) {k : Fin 4} {q : Proposal}
    (hq : s.proposals[k] = some q) (ho : q.outcome = none) :
    (s.thawed k q).discardOpen =
      { s.settingsWritten with
        frozen := false, proposals := (s.thawed k q).discardOpen.proposals
        closingOrder := s.closingOrder ++ [k] ++ s.madeOrder.filter (fun j => j != k && s.isOpen j) } := by
  rw [(hs.thawed hq ho).discardOpen_eq]
  have hopen : (s.thawed k q).isOpen = fun j => j != k && s.isOpen j := funext (s.thawed_isOpen k q)
  unfold State.discarded
  rw [hopen]
  rfl

theorem State.ProposalInv.thawed_discardOpen_proposals (hs : s.ProposalInv) {k : Fin 4} {q : Proposal}
    (hq : s.proposals[k] = some q) (ho : q.outcome = none) (j : Fin 4) :
    (s.thawed k q).discardOpen.proposals[j] =
      if j = k then some { q with outcome := some (.applied .ok), remaining := 0 }
      else (s.proposals[j]).map Proposal.discard := by
  rw [(hs.thawed hq ho).discardOpen_proposals, State.thawed_proposals]
  split <;> rfl

/-- Settles O41: CONFIRM by the slot that holds its number, and the held command by its request on an unfrozen table. -/
theorem confirmAppliesTheHeldCommand : Obligations.ConfirmAppliesTheHeldCommand := by
  unfold Obligations.ConfirmAppliesTheHeldCommand
  refine ⟨fun s p hi lo h hs => ?_, fun c s p code kind ps hc hkind hne h hf hb => ?_⟩
  · have hbytes : be16 (hi ++ lo) = [hi, lo] := be16_word16 hi lo
    refine ⟨fun habsent => ?_, fun k q hq hn => ?_⟩
    · rw [h.exec_confirm, applyConfirm_absent (State.findProposal_absent habsent), hbytes]
    · have hfind : s.findProposal (hi ++ lo) = some k := hn ▸ hs.findProposal hq
      refine ⟨fun o ho => ?_, fun ho hp => ?_, fun ho hp hcode => ?_, fun ho hp hcode hparams => ?_⟩
      · rw [h.exec_confirm, applyConfirm_closed hfind hq ho, hbytes]
        rfl
      · rw [h.exec_confirm, applyConfirm_open hfind hq ho, if_pos hp, hbytes]
      · dsimp only
        rw [h.exec_confirm, applyConfirm_open hfind hq ho, if_neg hp,
          hs.confirmProposal_applied hq ho hcode, hn, hbytes]
      · refine ⟨(s.thawed k q).discardOpen, ?_, hs.thawed_discardOpen hq ho, hs.thawed_discardOpen_proposals hq ho⟩
        rw [h.exec_confirm, applyConfirm_open hfind hq ho, if_neg hp,
          hs.confirmProposal_unfreeze hq ho hcode hparams, hn, hbytes]
  · rw [h.exec_eq hc (ne_save_of_structuralCode hkind), commandRequest_structural hc hkind hb,
      if_neg (Bool.eq_false_iff.mp hf), if_neg hne]

/-! ## WITHDRAW and READ_PROPOSAL (R106 to R108) -/

theorem State.Granted.exec_withdraw (h : s.Granted p 0x53 [hi, lo]) :
    exec (.withdraw p) s =
      .next ((applyWithdraw p (hi ++ lo) s).1.answered p (applyWithdraw p (hi ++ lo) s).2) := by
  rw [h.exec_eq rfl (by decide)]
  rfl

theorem State.Granted.exec_readProposal (h : s.Granted p 0x54 [hi, lo]) :
    exec (.readProposal p) s =
      .next ((applyReadProposal p (hi ++ lo) s).1.answered p (applyReadProposal p (hi ++ lo) s).2) := by
  rw [h.exec_eq rfl (by decide)]
  rfl

theorem applyWithdraw_absent {n : Word16} (h : s.findProposal n = none) :
    applyWithdraw p n s = (s, ⟨.noProposal, be16 n⟩) := by
  simp only [applyWithdraw, h]

theorem applyWithdraw_closed {n : Word16} {k : Fin 4} {q : Proposal} {o : ProposalOutcome}
    (h : s.findProposal n = some k) (hq : s.proposals[k] = some q) (ho : q.outcome = some o) :
    applyWithdraw p n s = (s, ⟨.tooLate, be16 n ++ [o.toByte]⟩) := by
  simp only [applyWithdraw, h, hq, ho]

theorem applyWithdraw_open {n : Word16} {k : Fin 4} {q : Proposal} (h : s.findProposal n = some k)
    (hq : s.proposals[k] = some q) (ho : q.outcome = none) :
    applyWithdraw p n s =
      if q.proposer = p then (s.closeProposal k .withdrawn, ⟨.ok, be16 n⟩) else (s, ⟨.notProposer, be16 n⟩) := by
  simp only [applyWithdraw, h, hq, ho]

theorem Proposal.stateByte_eq (q : Proposal) : q.stateByte = if q.outcome = none then 1 else 2 := by
  simp only [Proposal.stateByte, Option.isNone_iff_eq_none]

theorem Proposal.listBytes_eq (q : Proposal) :
    q.listBytes = be16 q.number ++ [Port.toByte q.proposer, if q.outcome = none then 1 else 2, q.code.toByte] ++
      be16 (BitVec.ofNat 16 q.remaining) := by
  rw [Proposal.listBytes, Proposal.stateByte_eq]
  rfl

theorem applyReadProposal_zero : applyReadProposal p 0 s =
    (s, ⟨.ok, [byteOf s.proposalsMade.length] ++ s.proposalsMade.flatMap Proposal.listBytes⟩) := if_pos rfl

theorem applyReadProposal_absent {n : Word16} (hn : n ≠ 0) (h : s.findProposal n = none) :
    applyReadProposal p n s = (s, ⟨.noProposal, be16 n⟩) := by
  simp only [applyReadProposal, if_neg hn, h]

theorem applyReadProposal_found {n : Word16} (hn : n ≠ 0) {k : Fin 4} {q : Proposal} (h : s.findProposal n = some k)
    (hq : s.proposals[k] = some q) :
    applyReadProposal p n s =
      (if q.outcome.isSome ∧ q.proposer = p then s.freeProposal k else s, ⟨.ok, q.bytes⟩) := by
  simp only [applyReadProposal, if_neg hn, h, hq]

end

/-- Settles O42: both commands by the slot that holds their number, the record of a slot field by field, and the
codes. -/
theorem withdrawAndReadProposalAreJudgedByTheirSlot : Obligations.WithdrawAndReadProposalAreJudgedByTheirSlot := by
  unfold Obligations.WithdrawAndReadProposalAreJudgedByTheirSlot
  refine ⟨fun s p code hi lo h hs => ?_, rfl, fun _ => rfl, rfl⟩
  have hbytes : be16 (hi ++ lo) = [hi, lo] := be16_word16 hi lo
  refine ⟨?_, fun k q hcode hq hn => ?_, ?_, ?_, fun k q hcode hq hn => ?_⟩
  · rintro rfl habsent
    rw [h.exec_withdraw, applyWithdraw_absent (State.findProposal_absent habsent), hbytes]
  · subst hcode
    have hfind : s.findProposal (hi ++ lo) = some k := hn ▸ hs.findProposal hq
    refine ⟨fun o ho => ?_, fun ho hp => ?_, fun ho hp => ?_⟩
    · rw [h.exec_withdraw, applyWithdraw_closed hfind hq ho, hbytes]
      rfl
    · rw [h.exec_withdraw, applyWithdraw_open hfind hq ho, if_neg hp, hbytes]
    · rw [h.exec_withdraw, applyWithdraw_open hfind hq ho, if_pos hp, hbytes,
        State.closeProposal_open hq (hs.not_mem_closingOrder hq ho)]
  · rintro rfl h0
    dsimp only
    rw [h.exec_readProposal, h0, applyReadProposal_zero, funext Proposal.listBytes_eq]
    rfl
  · rintro rfl h0 habsent
    rw [h.exec_readProposal, applyReadProposal_absent h0 (State.findProposal_absent habsent), hbytes]
  · subst hcode
    have hfind : s.findProposal (hi ++ lo) = some k := hn ▸ hs.findProposal hq
    have h0 : hi ++ lo ≠ (0 : Word16) := by
      obtain ⟨-, hnumber, -⟩ := hs
      exact hn ▸ hnumber k q hq
    dsimp only
    refine ⟨fun hkept => ?_, fun ho hp => ?_⟩
    · have hstays : ¬ (q.outcome.isSome = true ∧ q.proposer = p) := by
        rintro ⟨hsome, hp⟩
        exact hkept.elim (Option.isSome_iff_ne_none.mp hsome) (fun hne => hne hp)
      rw [h.exec_readProposal, applyReadProposal_found h0 hfind hq, if_neg hstays, Proposal.bytes, q.stateByte_eq]
      rfl
    · rw [h.exec_readProposal, applyReadProposal_found h0 hfind hq, if_pos ⟨Option.isSome_iff_ne_none.mpr ho, hp⟩,
        Proposal.bytes, q.stateByte_eq]
      rfl

end Sys2Proof.Machine
end

section
/-! PROOFS. What a step asks of the retention unit: outside the unit's own events a step hands it save requests, aborts of
a running sweep and an AUDIT, and leaves it otherwise but for the note of the save in flight. -/

namespace Sys2Proof.Machine

/-! ## The unit but for the note of the save in flight (R124) -/

/-- A retention state with the note of its save put aside. -/
def RetentionMode.unnoted : RetentionMode → RetentionMode
  | .saving sv w => .saving { sv with note := ⟨[], false⟩ } w
  | .loading => .loading
  | .idle => .idle
  | .auditing => .auditing
  | .held => .held
  | .faulted => .faulted

theorem RetentionMode.unnoted_withdrawIds (m : RetentionMode) (gone : Byte → Bool) :
    (m.withdrawIds gone).unnoted = m.unnoted := by cases m <;> rfl

theorem RetentionMode.unnoted_withdrawSettings (m : RetentionMode) : m.withdrawSettings.unnoted = m.unnoted := by
  cases m <;> rfl

/-- `t` holds the retention unit of `s`, its sweep, and what moves it, but for the note of a save in flight. -/
structure State.SameUnit (s t : State) : Prop where
  mode : t.mode.unnoted = s.mode.unnoted
  activeImage : t.activeImage = s.activeImage
  imageInfo : t.imageInfo = s.imageInfo
  failures : t.failures = s.failures
  pfwAsserted : t.pfwAsserted = s.pfwAsserted
  live : t.live = s.live
  audit : t.audit = s.audit

theorem State.SameUnit.refl (s : State) : s.SameUnit s := ⟨rfl, rfl, rfl, rfl, rfl, rfl, rfl⟩

theorem State.SameUnit.trans {s t u : State} (h : s.SameUnit t) (h' : t.SameUnit u) : s.SameUnit u :=
  ⟨h'.mode.trans h.mode, h'.activeImage.trans h.activeImage, h'.imageInfo.trans h.imageInfo,
    h'.failures.trans h.failures, h'.pfwAsserted.trans h.pfwAsserted, h'.live.trans h.live, h'.audit.trans h.audit⟩

/-- A step that leaves every field of the unit. -/
theorem State.SameUnit.of_frame {s t u : State} (h : t = u) (hu : s.SameUnit u) : s.SameUnit t := h ▸ hu

theorem State.sameUnit_ports (s : State) (x : PerPort PortUnit) : s.SameUnit { s with ports := x } :=
  ⟨rfl, rfl, rfl, rfl, rfl, rfl, rfl⟩

theorem State.sameUnit_placeAnswer (s : State) (p : Port) (a : Answer) : s.SameUnit (s.placeAnswer p a) :=
  .of_frame (s.placeAnswer_ports p a) (s.sameUnit_ports _)

theorem State.sameUnit_grant (s : State) (p : Port) : s.SameUnit (s.grant p) := ⟨rfl, rfl, rfl, rfl, rfl, rfl, rfl⟩

theorem State.sameUnit_markSettings (s : State) : s.SameUnit s.markSettings :=
  ⟨s.mode.unnoted_withdrawSettings, rfl, rfl, rfl, rfl, rfl, rfl⟩

theorem State.sameUnit_writeEntries (s : State) (f : Entry → Option Entry) : s.SameUnit (s.writeEntries f) :=
  ⟨s.mode.unnoted_withdrawIds _, rfl, rfl, rfl, rfl, rfl, rfl⟩

theorem State.sameUnit_changeVerdict (s : State) (v : Verdict) (c : Cause) : s.SameUnit (s.changeVerdict v c) :=
  ⟨rfl, rfl, rfl, rfl, rfl, rfl, rfl⟩

theorem State.sameUnit_closeProposal (s : State) (k : Fin 4) (o : ProposalOutcome) :
    s.SameUnit (s.closeProposal k o) := by
  unfold State.closeProposal
  split
  · exact ⟨rfl, rfl, rfl, rfl, rfl, rfl, rfl⟩
  · exact .refl s

theorem State.sameUnit_freed (s : State) (gone : Fin 4 → Bool) : s.SameUnit (s.freed gone) :=
  ⟨rfl, rfl, rfl, rfl, rfl, rfl, rfl⟩

theorem State.sameUnit_makeProposal (s : State) (p : Port) (code : StructuralCode) (ps : List Byte) :
    s.SameUnit (s.makeProposal p code ps).1 := by
  obtain ⟨_, _, _, _, h⟩ := s.makeProposal_frame p code ps
  exact .of_frame h ⟨rfl, rfl, rfl, rfl, rfl, rfl, rfl⟩

theorem State.sameUnit_discardOpen (s : State) : s.SameUnit s.discardOpen := by
  unfold State.discardOpen
  induction s.madeOrder generalizing s with
  | nil => exact .refl s
  | cons k ks ih =>
    refine State.SameUnit.trans ?_ (ih _)
    dsimp only
    split
    · exact s.sameUnit_closeProposal _ _
    · exact .refl s

/-! ## What is asked -/

/-- One thing asked of the unit: nothing, a save request that names no port, the abort of a running sweep, or an AUDIT
that is accepted (R120, R122, R140, R145, R146). -/
inductive State.Ask (s : State) : State → Prop where
  | nothing {t : State} (h : s.SameUnit t) : s.Ask t
  | save (c : Causes) (hm : s.mode = .idle) : s.Ask (s.startSave .none c)
  | join (c : Causes) {sv : Save} {w : Option PendingSave} (hm : s.mode = .saving sv w) :
      s.Ask { s with mode := .saving sv (some (joinPending w .none c)) }
  | abort {status : AuditStatus} (hm : s.mode = .auditing)
      (hs : status = .abortedBySave ∨ status = .abortedByChange) : s.Ask (s.abortAudit status)
  | audit {resume : Bool} (hm : s.mode = .idle) (hi : s.activeImage.isNone = false)
      (hr : resume = true → s.audit.status.resumable = true) :
      s.Ask { s with mode := .auditing, audit := s.audit.accept resume }

/-- Some things asked, one after another. -/
def State.Asks : State → State → Prop := Relation.ReflTransGen State.Ask

theorem State.Asks.refl (s : State) : s.Asks s := Relation.ReflTransGen.refl

theorem State.Asks.trans {s t u : State} (h : s.Asks t) (h' : t.Asks u) : s.Asks u :=
  Relation.ReflTransGen.trans h h'

theorem State.Ask.asks {s t : State} (h : s.Ask t) : s.Asks t := Relation.ReflTransGen.single h

theorem State.SameUnit.asks {s t : State} (h : s.SameUnit t) : s.Asks t := (State.Ask.nothing h).asks

/-- What each thing asked keeps, all of them keep. -/
theorem State.Asks.induct {P : State → Prop} (h : ∀ s t : State, s.Ask t → P s → P t) {s t : State} (ha : s.Asks t)
    (hs : P s) : P t := by
  induction ha with
  | refl => exact hs
  | tail _ hask ih => exact h _ _ hask ih

theorem State.asks_requestSave (s : State) (c : Causes) : s.Asks (s.requestSave c) := by
  obtain h | ⟨hm, h⟩ | ⟨hm, h⟩ | ⟨sv, w, hm, h⟩ := s.requestSave_cases c <;> rw [h]
  · exact .refl s
  · exact (State.Ask.save c hm).asks
  · exact (State.Ask.abort hm (.inl rfl)).asks.trans (State.Ask.save (s := s.abortAudit _) c rfl).asks
  · exact (State.Ask.join c hm).asks

theorem State.asks_definitionChange (s : State) : s.Asks s.definitionChange := by
  obtain ⟨hm, h⟩ | ⟨-, h⟩ := s.definitionChange_cases <;> rw [h]
  · exact (State.Ask.abort hm (.inr rfl)).asks
  · exact .refl s

theorem State.asks_recompute (s : State) (c : Cause) : s.Asks (s.recompute c) := by
  obtain ⟨-, h⟩ | ⟨-, -, h⟩ | ⟨-, -, h⟩ := s.recompute_cases c <;> rw [h]
  · exact .refl s
  · exact (s.sameUnit_changeVerdict _ _).asks
  · exact (s.sameUnit_changeVerdict _ _).asks.trans (State.asks_requestSave _ _)

/-- A change of definitions, with the abort of the sweep and the recomputation after it. -/
theorem State.SameUnit.redefined {s t : State} (h : s.SameUnit t) (c : Cause) :
    s.Asks (t.definitionChange.recompute c) :=
  (h.asks.trans t.asks_definitionChange).trans (State.asks_recompute _ c)

/-- A write of entries, with the recomputation after it. -/
theorem State.SameUnit.recomputed {s t : State} (h : s.SameUnit t) (c : Cause) : s.Asks (t.recompute c) :=
  h.asks.trans (State.asks_recompute t c)

/-! ## The commands of 10.2 -/

theorem asks_applyDefine (x : DefineParams) (s : State) : s.Asks (applyDefine x s).1 := by
  have hadd : s.SameUnit (s.addEntry x.entry) := ⟨s.mode.unnoted_withdrawIds _, rfl, rfl, rfl, rfl, rfl, rfl⟩
  unfold applyDefine
  split
  · exact .refl s
  · split
    · exact .refl s
    · split
      · exact .refl s
      · exact hadd.redefined _

theorem asks_applyRetire (id : Byte) (s : State) : s.Asks (applyRetire id s).1 := by
  have hdrop : s.SameUnit ((s.dropEntry id).unbindAll id) :=
    ⟨s.mode.unnoted_withdrawIds _, rfl, rfl, rfl, rfl, rfl, rfl⟩
  unfold applyRetire
  split
  · exact .refl s
  · exact (hdrop.trans (State.sameUnit_markSettings _)).redefined _

theorem asks_applyTune (x : TuneParams) (s : State) : s.Asks (applyTune x s).1 := by
  unfold applyTune
  split
  · exact .refl s
  · split
    · exact .refl s
    · exact (s.sameUnit_writeEntries _).redefined _

theorem asks_applyClear (id : Byte) (s : State) : s.Asks (applyClear id s).1 := by
  unfold applyClear
  split
  · exact .refl s
  · exact (s.sameUnit_writeEntries _).recomputed _

theorem asks_applyReport (p : Port) (items : List (Byte × Word16)) (s : State) : s.Asks (applyReport p items s).1 := by
  have hitems : s.SameUnit (applyItems s items) := by
    induction items generalizing s with
    | nil => exact .refl s
    | cons item items ih => exact (s.sameUnit_writeEntries _).trans (ih _)
  unfold applyReport
  split
  · exact .refl s
  · exact hitems.recomputed _

theorem sameUnit_applySetWindow (x : SetWindowParams) (s : State) : s.SameUnit (applySetWindow x s).1 := by
  unfold applySetWindow
  dsimp only
  split
  · exact .refl s
  · exact ⟨s.mode.unnoted_withdrawSettings, rfl, rfl, rfl, rfl, rfl, rfl⟩

theorem State.sameUnit_zeroTallies (s : State) (w : Fin 8) : s.SameUnit (s.zeroTallies w) :=
  ⟨rfl, rfl, rfl, rfl, rfl, rfl, rfl⟩

theorem sameUnit_applyJoinPair (x : Fin 4 × Bool) (s : State) : s.SameUnit (applyJoinPair x s).1 := by
  have hpreset : s.SameUnit ((s.pairStopped x.1 x.2).presetCounter (lowOf x.1)) := ⟨rfl, rfl, rfl, rfl, rfl, rfl, rfl⟩
  obtain ⟨k, on⟩ := x
  rw [applyJoinPair_eq]
  split
  · exact .refl s
  · split
    · exact .refl s
    · exact (hpreset.trans (State.sameUnit_zeroTallies _ _)).trans (State.sameUnit_markSettings _)

theorem State.sameUnit_setRunning (s : State) (w : Fin 8) (on : Bool) : s.SameUnit (s.setRunning w on) :=
  ⟨s.mode.unnoted_withdrawSettings, rfl, rfl, rfl, rfl, rfl, rfl⟩

theorem sameUnit_applyPresetWindow (w : Fin 8) (s : State) : s.SameUnit (applyPresetWindow w s).1 :=
  ⟨rfl, rfl, rfl, rfl, rfl, rfl, rfl⟩

theorem sameUnit_applyBind (x : BindParams) (s : State) : s.SameUnit (applyBind x s).1 := by
  have hbind : s.SameUnit (s.bind x) := ⟨s.mode.unnoted_withdrawSettings, rfl, rfl, rfl, rfl, rfl, rfl⟩
  unfold applyBind
  split
  · exact hbind
  · split
    · exact .refl s
    · split
      · exact .refl s
      · exact hbind
      · exact hbind

theorem sameUnit_applySetAutosave (x : Bool × Word16) (s : State) : s.SameUnit (applySetAutosave x s).1 :=
  ⟨s.mode.unnoted_withdrawSettings, rfl, rfl, rfl, rfl, rfl, rfl⟩

theorem sameUnit_applyFreeze (l : Word16) (s : State) : s.SameUnit (applyFreeze l s).1 := by
  unfold applyFreeze
  split
  · exact .refl s
  · exact ⟨s.mode.unnoted_withdrawSettings, rfl, rfl, rfl, rfl, rfl, rfl⟩

theorem sameUnit_applyUnfreeze (s : State) : s.SameUnit (applyUnfreeze () s).1 :=
  ⟨s.mode.unnoted_withdrawSettings, rfl, rfl, rfl, rfl, rfl, rfl⟩

theorem asks_applyHeldWith {α : Type} {s : State} {ident : List Byte → List Byte} {parse : List Byte → Option α}
    {apply : α → State → State × Answer} (ps : List Byte) (h : ∀ x, s.Asks (apply x s).1) :
    s.Asks (applyHeldWith ident parse apply ps s).1 := by
  unfold applyHeldWith
  split
  · exact h _
  · exact .refl s

/-- A held command asks what it would ask at its own grant (R104). -/
theorem asks_applyHeld (code : StructuralCode) (ps : List Byte) (s : State) : s.Asks (applyHeld code ps s).1 := by
  cases code with
  | define => exact asks_applyHeldWith ps (fun x => asks_applyDefine x s)
  | retire => exact asks_applyHeldWith ps (fun id => asks_applyRetire id s)
  | tune => exact asks_applyHeldWith ps (fun x => asks_applyTune x s)
  | clear => exact asks_applyHeldWith ps (fun id => asks_applyClear id s)
  | setWindow => exact asks_applyHeldWith ps (fun x => (sameUnit_applySetWindow x s).asks)
  | joinPair => exact asks_applyHeldWith ps (fun x => (sameUnit_applyJoinPair x s).asks)
  | startWindow => exact asks_applyHeldWith ps (fun w => (s.sameUnit_setRunning w true).asks)
  | stopWindow => exact asks_applyHeldWith ps (fun w => (s.sameUnit_setRunning w false).asks)
  | presetWindow => exact asks_applyHeldWith ps (fun w => (sameUnit_applyPresetWindow w s).asks)
  | bindInput => exact asks_applyHeldWith ps (fun x => (sameUnit_applyBind x s).asks)
  | setAutosave => exact asks_applyHeldWith ps (fun x => (sameUnit_applySetAutosave x s).asks)
  | unfreeze => exact asks_applyHeldWith ps (fun _ => (sameUnit_applyUnfreeze s).asks)

/-- A structural command: refused, made a proposal, or applied (R6, R99). -/
theorem asks_structural {c : Instr} {p : Port} {code : Byte} {kind : StructuralCode}
    (hc : portAndCode c = some (p, code)) (hkind : structuralCode code = some kind) (ps : List Byte) (s : State) :
    s.Asks (commandRequest c ps s).1 := by
  cases hb : blockOk code ps with
  | false =>
    rw [commandRequest_bad hc (ne_save_of_structuralCode hkind) hb]
    exact .refl s
  | true =>
    rw [commandRequest_structural hc hkind hb]
    split
    · exact (s.sameUnit_makeProposal p kind ps).asks
    · split
      · exact .refl s
      · exact asks_applyHeld kind ps s

theorem State.asks_direct {α : Type} {s : State} {ident : List Byte → List Byte} {parse : List Byte → Option α}
    {apply : α → State → State × Answer} (ps : List Byte) (h : ∀ x, s.Asks (apply x s).1) :
    s.Asks (s.direct ident parse apply ps).1 := by
  unfold State.direct
  split
  · exact .refl s
  · exact h _

theorem State.asks_confirmProposal (s : State) (k : Fin 4) (q : Proposal) : s.Asks (s.confirmProposal k q).1 := by
  refine (asks_applyHeld q.code q.params s).trans ?_
  unfold State.confirmProposal
  dsimp only
  split
  · exact ((State.sameUnit_closeProposal _ _ _).trans (State.sameUnit_discardOpen _)).asks
  · exact (State.sameUnit_closeProposal _ _ _).asks

theorem asks_applyConfirm (p : Port) (n : Word16) (s : State) : s.Asks (applyConfirm p n s).1 := by
  unfold applyConfirm
  split
  · exact .refl s
  · split
    · exact .refl s
    · split
      · exact .refl s
      · split
        · exact .refl s
        · exact s.asks_confirmProposal _ _

theorem sameUnit_applyWithdraw (p : Port) (n : Word16) (s : State) : s.SameUnit (applyWithdraw p n s).1 := by
  unfold applyWithdraw
  split
  · exact .refl s
  · split
    · exact .refl s
    · split
      · exact .refl s
      · split
        · exact s.sameUnit_closeProposal _ _
        · exact .refl s

theorem sameUnit_applyReadProposal (p : Port) (n : Word16) (s : State) : s.SameUnit (applyReadProposal p n s).1 := by
  unfold applyReadProposal
  split
  · exact .refl s
  · split
    · exact .refl s
    · split
      · exact .refl s
      · dsimp only
        split
        · rw [State.freeProposal_eq_freed]; exact s.sameUnit_freed _
        · exact .refl s

theorem asks_applyAudit (resume : Bool) (s : State) : s.Asks (applyAudit resume s).1 := by
  unfold applyAudit
  split
  case h_6 hm =>
    split
    · exact .refl s
    · next hi =>
      split
      · exact .refl s
      · next hr =>
        exact (State.Ask.audit hm (Bool.eq_false_iff.mpr hi) (fun hres => by simpa [hres] using hr)).asks
  all_goals exact .refl s

/-- The request of a command of 10.2. -/
theorem asks_commandRequest (c : Instr) (ps : List Byte) (s : State) : s.Asks (commandRequest c ps s).1 := by
  have hreads : ∀ {p}, c ∈ readingCommands p → s.Asks (commandRequest c ps s).1 := fun hc => by
    rw [commandRequest_reads hc]; exact .refl s
  have hnotice : ∀ {p}, c ∈ [Instr.ack p, .setNotice p] → s.Asks (commandRequest c ps s).1 := fun hc => by
    obtain ⟨n, hn⟩ := commandRequest_notice hc ps s
    exact State.SameUnit.asks (.of_frame hn ⟨rfl, rfl, rfl, rfl, rfl, rfl, rfl⟩)
  cases c with
  | define p | retire p | tune p | clear p | setWindow p | joinPair p | startWindow p | stopWindow p | presetWindow p
  | bindInput p | setAutosave p | unfreeze p => exact asks_structural (p := p) rfl rfl ps s
  | report p => exact State.asks_direct ps (fun items => asks_applyReport p items s)
  | ack p | setNotice p => exact hnotice (p := p) (by simp)
  | freeze p => exact State.asks_direct ps (fun l => (sameUnit_applyFreeze l s).asks)
  | confirm p => exact State.asks_direct ps (fun n => asks_applyConfirm p n s)
  | withdraw p => exact State.asks_direct ps (fun n => (sameUnit_applyWithdraw p n s).asks)
  | readProposal p => exact State.asks_direct ps (fun n => (sameUnit_applyReadProposal p n s).asks)
  | audit p => exact State.asks_direct ps (fun resume => asks_applyAudit resume s)
  | identify p | readEntry p | list p | readVerdict p | readHistory p | readWindow p | readInput p | readRetention p
  | readAudit p => exact hreads (p := p) (by simp [readingCommands])
  | _ => exact .refl s

theorem State.asks_takeCommand {s : State} {p : Port} {test : Byte → Bool}
    {request : List Byte → State → State × Answer} (h : ∀ ps t, State.Asks t (request ps t).1) :
    s.Asks (s.takeCommand p test request) := by
  unfold State.takeCommand
  split
  · exact ((s.sameUnit_grant p).asks.trans (h _ _)).trans (State.sameUnit_placeAnswer _ _ _).asks
  · exact .refl s

theorem asks_effectOf (p : Port) (code : Byte) (ps : List Byte) (s : State) : s.Asks (effectOf p code ps s) := by
  obtain h | ⟨c, -, -, h⟩ := effectOf_cases p code ps s <;> rw [h]
  · exact .refl s
  · exact asks_commandRequest c ps s

/-! ## The events of the table and of time -/

theorem State.OwnUnit.sameUnit {p : Port} {s t : State} (h : s.OwnUnit p t) : s.SameUnit t :=
  .of_frame h.frame (s.sameUnit_ports _)

/-- A step that is taken or not. -/
theorem State.sameUnit_ite {s t : State} {c : Prop} [Decidable c] (h : s.SameUnit t) :
    s.SameUnit (if c then t else s) := by
  split
  · exact h
  · exact .refl s

theorem State.sameUnit_setInput (s : State) (i : Fin 4) (e : EventInput) : s.SameUnit (s.setInput i e) :=
  ⟨rfl, rfl, rfl, rfl, rfl, rfl, rfl⟩

theorem State.sameUnit_setCounter (s : State) (w : Fin 8) (c : Counter) : s.SameUnit (s.setCounter w c) :=
  ⟨rfl, rfl, rfl, rfl, rfl, rfl, rfl⟩

theorem sameUnit_execEventInputEdge (i : Fin 4) (soon : Bool) {s t : State}
    (h : execEventInputEdge i soon s = .next t) : s.SameUnit t := by
  cases h
  split
  · exact .refl s
  · split
    · exact s.sameUnit_setInput _ _
    · split
      · exact s.sameUnit_setInput _ _
      · split
        · exact s.sameUnit_setInput _ _
        · split
          · exact (s.sameUnit_setInput _ _).trans (State.sameUnit_setInput _ _ _)
          all_goals exact s.sameUnit_setInput _ _

theorem sameUnit_execWindowTickDecrement (w : Fin 8) {s t : State} (h : execWindowTickDecrement w s = .next t) :
    s.SameUnit t := by
  cases h
  split
  · exact State.sameUnit_ite ((s.sameUnit_setCounter _ _).trans (State.sameUnit_setCounter _ _ _))
  · exact .refl s

theorem sameUnit_execWindowEventDecrement (n : PulseCount) {s t : State}
    (h : execWindowEventDecrement n s = .next t) : s.SameUnit t := by
  cases h
  split
  · dsimp only
    split
    · exact (s.sameUnit_setInput _ _).trans (State.sameUnit_setCounter _ _ _)
    · exact s.sameUnit_setInput _ _
  · exact .refl s

theorem asks_execPulseFold (i : Fin 4) {s t : State} (h : execPulseFold i s = .next t) : s.Asks t := by
  have hfold : ∀ (u : State) id, u.SameUnit (u.foldEntry id) := fun u id =>
    ⟨u.mode.unnoted_withdrawIds _, rfl, rfl, rfl, rfl, rfl, rfl⟩
  cases h
  split
  · dsimp only
    split
    · split
      · exact ((s.sameUnit_setInput _ _).trans (hfold _ _)).recomputed _
      · exact (s.sameUnit_setInput _ _).asks
    · exact (s.sameUnit_setInput _ _).asks
  · exact .refl s

/-- A request of a counter taken from it, the entries bound to it written and the verdict recomputed. -/
theorem State.asks_counterRequest (s : State) (w : Fin 8) (x : Counter) (f : Entry → Option Entry) (c : Cause) :
    s.Asks (((s.setCounter w x).writeEntries f).recompute c) :=
  ((s.sameUnit_setCounter w x).trans (State.sameUnit_writeEntries _ f)).recomputed c

theorem asks_execWindowClose (w : Fin 8) {s t : State} (h : execWindowClose w s = .next t) : s.Asks t := by
  cases h
  split
  · split
    · exact s.asks_counterRequest w _ _ _
    · exact .refl s
  all_goals exact .refl s

theorem asks_execEarlyLook (w : Fin 8) {s t : State} (h : execEarlyLook w s = .next t) : s.Asks t := by
  cases h
  split
  · split
    · exact s.asks_counterRequest w _ _ _
    · exact .refl s
  all_goals exact .refl s

theorem sameUnit_execProposalExpiry (k : Fin 4) {s t : State} (h : execProposalExpiry k s = .next t) :
    s.SameUnit t := by
  cases h
  split
  · exact State.sameUnit_ite (s.sameUnit_closeProposal _ _)
  · exact .refl s

theorem asks_execIntervalTimerExpiry {s t : State} (h : execIntervalTimerExpiry s = .next t) : s.Asks t := by
  have hreload : s.SameUnit s.reloadTimer := ⟨rfl, rfl, rfl, rfl, rfl, rfl, rfl⟩
  cases h
  split
  · exact hreload.asks.trans (State.asks_requestSave _ _)
  · exact .refl s

/-- The events that are the retention unit's own, or restart, load or release the part. -/
def movesUnit : Instr → Bool
  | .save _ | .portReset _ _ | .reset _ _ _ | .loadEnd _ | .pfwAssertion | .pfwRelease | .saveEnd _
  | .auditSegmentEnd _ | .lossOfPower _ | .rstNRelease _ | .openMarkingWritten => true
  | _ => false

/-- Every other command and event only asks. -/
theorem asks_exec {c : Instr} (hc : movesUnit c = false) {s t : State} (h : exec c s = .next t) : s.Asks t := by
  cases hcode : portAndCode c with
  | some x =>
    obtain ⟨p, code⟩ := x
    have hsave : code ≠ 0x60 := by
      rintro rfl
      obtain rfl := eq_save_of_code hcode
      cases hc
    rw [exec_command hcode hsave] at h
    cases h
    exact State.asks_takeCommand (asks_commandRequest c)
  | none =>
    cases c with
    | unknownCommand p => cases h; exact State.asks_takeCommand (fun _ t => .refl t)
    | commandFrame p bytes => cases h; exact (State.ownUnit_takeFrame (fun _ => s.ownUnit_setPort p _)).sameUnit.asks
    | poll p n => cases h; exact (State.ownUnit_takeFrame (fun _ => s.ownUnit_setPort p _)).sameUnit.asks
    | fetch p n => exact (ownUnit_execFetch h).sameUnit.asks
    | badKindFrame p kind n => exact (ownUnit_execBadKindFrame h).sameUnit.asks
    | tick => exact State.SameUnit.asks (.of_frame (execTick_frame h).1 ⟨rfl, rfl, rfl, rfl, rfl, rfl, rfl⟩)
    | uptimeSecond => cases h; exact State.SameUnit.asks (State.sameUnit_ite ⟨rfl, rfl, rfl, rfl, rfl, rfl, rfl⟩)
    | proposalExpiry k => exact (sameUnit_execProposalExpiry k h).asks
    | intervalTimerExpiry => exact asks_execIntervalTimerExpiry h
    | eventInputEdge i soon => exact (sameUnit_execEventInputEdge i soon h).asks
    | eventInputReturn i => cases h; exact (State.sameUnit_ite (s.sameUnit_setInput _ _)).asks
    | filterWidthElapsed i => cases h; exact (State.sameUnit_ite (s.sameUnit_setInput _ _)).asks
    | pulseFold i => exact asks_execPulseFold i h
    | windowTickDecrement w => exact (sameUnit_execWindowTickDecrement w h).asks
    | windowEventDecrement n => exact (sameUnit_execWindowEventDecrement n h).asks
    | windowClose w => exact asks_execWindowClose w h
    | earlyLook w => exact asks_execEarlyLook w h
    | portReset | reset | loadEnd | pfwAssertion | pfwRelease | saveEnd | auditSegmentEnd | lossOfPower | rstNRelease
    | openMarkingWritten => cases hc
    | _ => cases hcode

end Sys2Proof.Machine
end

section
/-! PROOFS. The retention unit consistent through every step (O11): what its state allows, and each of its events. -/

namespace Sys2Proof.Machine

/-! ## What each retention state allows (R119 to R132) -/

/-- The active image is VALID (R116, R126). -/
def State.ActiveValid (s : State) : Prop := ∀ i, s.activeImage = some i → (s.imageInfo.get i).state = .valid

/-- What retention state `m` asks of the failures, PFW_N, the power, and of the image being written. -/
def State.Allows (s : State) : RetentionMode → Prop
  | .loading => s.failures < 3
  | .idle => s.failures < 3 ∧ s.live = true ∧ s.pfwAsserted = false
  | .auditing => s.failures < 3 ∧ s.live = true ∧ s.pfwAsserted = false
  | .held => s.failures < 3 ∧ s.live = true ∧ s.pfwAsserted = true
  | .faulted => s.failures = 3 ∧ s.live = true
  | .saving sv _ => s.failures < 3 ∧ s.live = true ∧ s.activeImage ≠ some sv.target ∧
      (s.imageInfo.get sv.target).state = if sv.stage = .erasing then .blank else .invalid

/-- The invariant, retention state by retention state. -/
theorem State.retentionInv_iff (s : State) : s.RetentionInv ↔ s.ActiveValid ∧ s.Allows s.mode := by
  have hcount : (s.failures ≤ 3 ∧ s.failures ≠ 3) ↔ s.failures < 3 := by omega
  unfold State.RetentionInv State.ActiveValid
  cases hm : s.mode <;> simp only [State.Allows, ← hcount]
  case loading => simp
  case faulted => simp; omega
  all_goals simp; tauto

/-- What a state allows rests on five of its parts. -/
theorem State.allows_congr {s t : State} (hactive : t.activeImage = s.activeImage) (hinfo : t.imageInfo = s.imageInfo)
    (hfailures : t.failures = s.failures) (hpfw : t.pfwAsserted = s.pfwAsserted) (hlive : t.live = s.live)
    (m : RetentionMode) : t.Allows m ↔ s.Allows m := by
  cases m <;> simp only [State.Allows, hactive, hinfo, hfailures, hpfw, hlive]

/-- The note of a save has no part in it. -/
theorem State.allows_unnoted (s : State) (m : RetentionMode) : s.Allows m.unnoted ↔ s.Allows m := by
  cases m <;> exact Iff.rfl

theorem State.SameUnit.retentionInv {s t : State} (h : s.SameUnit t) (hs : s.RetentionInv) : t.RetentionInv := by
  obtain ⟨hvalid, hallows⟩ := s.retentionInv_iff.mp hs
  refine t.retentionInv_iff.mpr ⟨fun i hi => ?_, ?_⟩
  · rw [h.imageInfo]
    exact hvalid i (h.activeImage ▸ hi)
  · rw [← t.allows_unnoted, h.mode, t.allows_unnoted,
      State.allows_congr h.activeImage h.imageInfo h.failures h.pfwAsserted h.live]
    exact hallows

/-! ## A save that starts, and what else is asked -/

/-- The image a save writes is not the active one (R125). -/
theorem State.saveTarget_ne_active (s : State) : s.activeImage ≠ some s.saveTarget := by
  unfold State.saveTarget
  cases h : s.activeImage with
  | none => simp
  | some i => simpa using (other_ne i).symm

/-- A record of an image that is not active has no part in the active one. -/
theorem State.ActiveValid.write {s t : State} (h : s.ActiveValid) {j : ImageId} {x : ImageInfo}
    (hj : s.activeImage ≠ some j) (hactive : t.activeImage = s.activeImage) (hinfo : t.imageInfo = s.imageInfo.set j x) :
    t.ActiveValid := by
  intro i hi
  rw [hactive] at hi
  have hne : i ≠ j := fun he => hj (he ▸ hi)
  rw [hinfo, perImage_get_set, if_neg hne]
  exact h i hi

theorem State.retentionInv_startSave {s : State} (hvalid : s.ActiveValid) (hf : s.failures < 3) (hl : s.live = true)
    (requesters : PortSet) (causes : Causes) : (s.startSave requesters causes).RetentionInv := by
  refine (State.retentionInv_iff _).mpr ⟨hvalid.write s.saveTarget_ne_active rfl rfl, hf, hl,
    s.saveTarget_ne_active, ?_⟩
  show ((s.imageInfo.set s.saveTarget _).get s.saveTarget).state = _
  rw [perImage_get_set, if_pos rfl]
  rfl

/-- Every thing asked of the unit keeps it consistent. -/
theorem State.Ask.retentionInv {s t : State} (h : s.Ask t) (hs : s.RetentionInv) : t.RetentionInv := by
  cases h with
  | nothing h => exact h.retentionInv hs
  | save c hm =>
    obtain ⟨hvalid, hallows⟩ := s.retentionInv_iff.mp hs
    rw [hm] at hallows
    obtain ⟨hf, hl, -⟩ := hallows
    exact State.retentionInv_startSave hvalid hf hl _ _
  | join c hm =>
    obtain ⟨hvalid, hallows⟩ := s.retentionInv_iff.mp hs
    rw [hm] at hallows
    exact (State.retentionInv_iff _).mpr ⟨hvalid, hallows⟩
  | abort hm =>
    obtain ⟨hvalid, hallows⟩ := s.retentionInv_iff.mp hs
    rw [hm] at hallows
    exact (State.retentionInv_iff _).mpr ⟨hvalid, hallows⟩
  | audit hm =>
    obtain ⟨hvalid, hallows⟩ := s.retentionInv_iff.mp hs
    rw [hm] at hallows
    exact (State.retentionInv_iff _).mpr ⟨hvalid, hallows⟩

theorem State.Asks.retentionInv {s t : State} (h : s.Asks t) (hs : s.RetentionInv) : t.RetentionInv :=
  State.Asks.induct (P := State.RetentionInv) (fun _ _ hask => hask.retentionInv) h hs

/-! ## SAVE and PORT RESET -/

section
variable {s : State} (hs : s.RetentionInv)
include hs

theorem State.RetentionInv.requestPortSave (p : Port) : (s.requestPortSave p).RetentionInv := by
  obtain ⟨hvalid, hallows⟩ := s.retentionInv_iff.mp hs
  have hanswer : ∀ a, (s.placeAnswer p a).RetentionInv := fun a => (s.sameUnit_placeAnswer p a).retentionInv hs
  unfold State.requestPortSave
  split
  · exact hanswer _
  · next hm =>
    rw [hm] at hallows
    obtain ⟨hf, hl, -⟩ := hallows
    split
    · exact hanswer _
    · exact State.retentionInv_startSave hvalid hf hl _ _
  · next hm =>
    rw [hm] at hallows
    obtain ⟨hf, hl, -⟩ := hallows
    split
    · exact hanswer _
    · exact State.retentionInv_startSave (s := s.abortAudit _) hvalid hf hl _ _
  · next hm =>
    rw [hm] at hallows
    split
    · exact hanswer _
    · exact (State.retentionInv_iff _).mpr ⟨hvalid, hallows⟩
  · exact hanswer _
  · exact hanswer _

theorem State.RetentionInv.removePort (p : Port) :
    State.RetentionInv { s with mode := s.mode.removePort p } := by
  obtain ⟨hvalid, hallows⟩ := s.retentionInv_iff.mp hs
  refine (State.retentionInv_iff _).mpr ⟨hvalid, ?_⟩
  show s.Allows (s.mode.removePort p)
  cases hm : s.mode <;> rw [hm] at hallows <;> exact hallows

theorem State.RetentionInv.resetPort (p : Port) : (s.resetPort p).RetentionInv := by
  have hunit : ∀ t : State, t.SameUnit ((t.setNotice p Notice.reset).setSlot p Slot.reset) :=
    fun _ => ⟨rfl, rfl, rfl, rfl, rfl, rfl, rfl⟩
  unfold State.resetPort
  rw [State.freeProposalsOf_eq_freed]
  exact ((State.sameUnit_freed _ _).trans (hunit _)).retentionInv (hs.removePort p)

end

theorem retentionInv_execSave (p : Port) {s t : State} (hs : s.RetentionInv) (h : execSave p s = .next t) :
    t.RetentionInv := by
  have hgrant := (s.sameUnit_grant p).retentionInv hs
  cases h
  split
  · split
    · exact hgrant.requestPortSave p
    · exact (State.sameUnit_placeAnswer _ _ _).retentionInv hgrant
  · exact hs

theorem State.sameUnit_setPort (s : State) (p : Port) (u : PortUnit) : s.SameUnit (s.setPort p u) :=
  (s.ownUnit_setPort p u).sameUnit

theorem retentionInv_execPortReset (p : Port) (frame : ResetFrame) {s t : State} (hs : s.RetentionInv)
    (h : execPortReset p frame s = .next t) : t.RetentionInv := by
  cases h
  unfold State.takeFrame
  dsimp only
  split
  · split
    · exact (s.sameUnit_setPort p _).retentionInv hs
    · split
      · split
        · refine (asks_effectOf _ _ _ _).retentionInv (State.RetentionInv.resetPort ?_ p)
          exact ((s.sameUnit_grant p).trans (State.sameUnit_setPort _ _ _)).retentionInv hs
        · exact ((s.sameUnit_setPort p _).retentionInv hs).resetPort p
      · exact (s.sameUnit_setPort p _).retentionInv hs
  · exact hs

/-! ## Reset and load -/

/-- The image a load takes is VALID (R116). -/
theorem chooseActive_valid {info : PerImage ImageInfo} {i : ImageId} (h : chooseActive info = some i) :
    (info.get i).state = .valid := by
  unfold chooseActive at h
  split at h
  · next ha hb =>
    split at h <;> cases h
    · exact eq_of_beq hb
    · exact eq_of_beq ha
  · next ha _ => cases h; exact eq_of_beq ha
  · next _ hb => cases h; exact eq_of_beq hb
  · cases h

/-- A part restarted is LOADING, without failures, and its active image is VALID (R116, R119). -/
theorem State.retentionInv_restart (s : State) (array : PerImage Image) : (s.restart array).RetentionInv :=
  (State.retentionInv_iff _).mpr ⟨fun _ hi => chooseActive_valid hi, Nat.zero_lt_succ 2⟩

/-- The pins alone move in a part that is LOADING. -/
theorem State.RetentionInv.loadingPins {s t : State} (hs : s.RetentionInv) (hm : s.mode = .loading)
    (ht : t = { s with rstAsserted := t.rstAsserted, pfwAsserted := t.pfwAsserted, ports := t.ports }) :
    t.RetentionInv := by
  obtain ⟨hvalid, hallows⟩ := s.retentionInv_iff.mp hs
  rw [hm] at hallows
  rw [ht]
  refine (State.retentionInv_iff _).mpr ⟨hvalid, ?_⟩
  rw [show State.mode _ = .loading from hm]
  exact hallows

theorem State.RetentionInv.loading_of_dead {s : State} (hs : s.RetentionInv) (hl : s.live = false) :
    s.mode = .loading := by
  obtain ⟨-, -, -, -, -, -, hdead⟩ := hs
  exact hdead hl

theorem retentionInv_execReset (cause : ResetCause) (cut : CutPoint) (faults : List ArrayFault) {s t : State}
    (hs : s.RetentionInv) (h : execReset cause cut faults s = .next t) : t.RetentionInv := by
  cases h
  split
  · exact (State.sameUnit_ports _ _).retentionInv (State.retentionInv_restart _ _)
  · split
    · exact State.retentionInv_restart _ _
    · next hp => exact hs.loadingPins (hs.loading_of_dead (by simp [State.live, hp])) rfl

theorem retentionInv_execRstNRelease (selected : PortSet) {s t : State} (hs : s.RetentionInv)
    (h : execRstNRelease selected s = .next t) : t.RetentionInv := by
  cases h
  split
  · next hr => exact hs.loadingPins (hs.loading_of_dead (by simp [State.live, hr])) rfl
  · exact hs

theorem State.sameUnit_buildLoad (s : State) : s.SameUnit s.buildLoad := by
  have himage : s.SameUnit s.loadImage := .of_frame s.loadImage_frame ⟨rfl, rfl, rfl, rfl, rfl, rfl, rfl⟩
  have hbuilt : ∀ t : State, t.SameUnit { t with loadBuilt := true } := fun _ => ⟨rfl, rfl, rfl, rfl, rfl, rfl, rfl⟩
  unfold State.buildLoad State.loadVerdict
  dsimp only
  split
  · exact himage.trans (hbuilt _)
  · exact (himage.trans (State.sameUnit_changeVerdict _ _ _)).trans (hbuilt _)

/-- The load ends HELD or IDLE, by PFW_N (R118, R132). -/
theorem State.retentionInv_finishLoad {s : State} (hvalid : s.ActiveValid) (hl : s.live = true) :
    s.finishLoad.RetentionInv := by
  refine (State.retentionInv_iff _).mpr ⟨hvalid, ?_⟩
  show State.Allows _ (if s.pfwAsserted then RetentionMode.held else .idle)
  split
  · next hp => exact ⟨Nat.zero_lt_succ 2, hl, hp⟩
  · next hp => exact ⟨Nat.zero_lt_succ 2, hl, Bool.eq_false_iff.mpr hp⟩

theorem retentionInv_execLoadEnd (upTo : LoadPoint) {s t : State} (hs : s.RetentionInv)
    (h : execLoadEnd upTo s = .next t) : t.RetentionInv := by
  cases h
  split
  · next hload =>
    have hbuild : s.SameUnit (if s.loadBuilt then s else s.buildLoad) := by
      split
      · exact .refl s
      · exact s.sameUnit_buildLoad
    have hinv := hbuild.retentionInv hs
    dsimp only
    split
    · exact hinv
    · exact State.retentionInv_finishLoad ((State.retentionInv_iff _).mp hinv).1
        (hbuild.live.trans (Bool.and_eq_true_iff.mp hload).1)
  · exact hs

/-! ## The power-fail warning (R131, R132) -/

theorem retentionInv_execPfwAssertion {s t : State} (hs : s.RetentionInv) (h : execPfwAssertion s = .next t) :
    t.RetentionInv := by
  obtain ⟨hvalid, hallows⟩ := s.retentionInv_iff.mp hs
  cases h
  split
  · exact hs
  · next hp =>
    split
    · unfold State.powerFails
      dsimp only
      split
      · next hm =>
        rw [hm] at hallows
        obtain ⟨hf, hl, -⟩ := hallows
        exact State.retentionInv_startSave (s := { s with pfwAsserted := true }) hvalid hf hl _ _
      · next hm =>
        rw [hm] at hallows
        obtain ⟨hf, hl, -⟩ := hallows
        exact State.retentionInv_startSave (s := State.abortAudit { s with pfwAsserted := true } _) hvalid hf hl _ _
      · next hm =>
        rw [hm] at hallows
        exact (State.retentionInv_iff _).mpr ⟨hvalid, hallows⟩
      · next hm => exact hs.loadingPins hm rfl
      · next hm =>
        rw [hm] at hallows
        obtain ⟨-, -, hp'⟩ := hallows
        exact absurd hp' hp
      · next hm =>
        rw [hm] at hallows
        refine (State.retentionInv_iff _).mpr ⟨hvalid, ?_⟩
        rw [show State.mode _ = .faulted from hm]
        exact hallows
    · next hl => exact hs.loadingPins (hs.loading_of_dead (Bool.eq_false_iff.mpr hl)) rfl

theorem retentionInv_execPfwRelease {s t : State} (hs : s.RetentionInv) (h : execPfwRelease s = .next t) :
    t.RetentionInv := by
  obtain ⟨hvalid, hallows⟩ := s.retentionInv_iff.mp hs
  cases h
  split
  · next hp =>
    have hreleased : ∀ {m : RetentionMode}, s.mode = m → State.Allows { s with pfwAsserted := false } m →
        State.RetentionInv { s with pfwAsserted := false } := fun hm hm' =>
      (State.retentionInv_iff _).mpr ⟨hvalid, (show State.mode _ = _ from hm) ▸ hm'⟩
    have hasserted : ¬ s.pfwAsserted = false := fun he => nomatch hp.symm.trans he
    split
    · next hm =>
      rw [hm] at hallows
      obtain ⟨hf, hl, -⟩ := hallows
      exact (State.retentionInv_iff _).mpr ⟨hvalid, hf, hl, rfl⟩
    · next hm => exact hreleased hm (hm ▸ hallows :)
    · next hm =>
      rw [hm] at hallows
      obtain ⟨-, -, hp'⟩ := hallows
      exact absurd hp' hasserted
    · next hm => exact hreleased hm (hm ▸ hallows :)
    · next hm =>
      rw [hm] at hallows
      obtain ⟨-, -, hp'⟩ := hallows
      exact absurd hp' hasserted
    · next hm => exact hreleased hm (hm ▸ hallows :)
  · exact hs

/-! ## The steps of a save and the end of a segment -/

theorem retentionInv_execOpenMarkingWritten {s t : State} (hs : s.RetentionInv)
    (h : execOpenMarkingWritten s = .next t) : t.RetentionInv := by
  obtain ⟨hvalid, hallows⟩ := s.retentionInv_iff.mp hs
  cases h
  split
  · next sv w hm =>
    rw [hm] at hallows
    obtain ⟨hf, hl, htarget, -⟩ := hallows
    split
    · refine (State.retentionInv_iff _).mpr ⟨hvalid.write htarget rfl rfl, hf, hl, htarget, ?_⟩
      show ((s.imageInfo.set sv.target _).get sv.target).state = _
      rw [perImage_get_set, if_pos rfl]
      rfl
    · exact hs
  all_goals exact hs

/-- What follows a save leaves the unit consistent (R128, R129). -/
theorem State.retentionInv_afterSave {s : State} (hvalid : s.ActiveValid) (hf : s.failures ≤ 3) (hl : s.live = true)
    (w : Option PendingSave) : (s.afterSave w).RetentionInv := by
  unfold State.afterSave
  split
  · next h3 =>
    have hfaulted : State.RetentionInv { s with mode := .faulted } :=
      (State.retentionInv_iff _).mpr ⟨hvalid, Nat.le_antisymm hf h3, hl⟩
    dsimp only
    split
    · exact (State.SameUnit.of_frame (State.placeAnswers_ports _ _ _) (State.sameUnit_ports _ _)).retentionInv hfaulted
    · exact hfaulted
  · next h3 =>
    have hlt := Nat.lt_of_not_le h3
    split
    · exact State.retentionInv_startSave hvalid hlt hl _ _
    · split
      · next hp => exact (State.retentionInv_iff _).mpr ⟨hvalid, hlt, hl, hp⟩
      · next hp => exact (State.retentionInv_iff _).mpr ⟨hvalid, hlt, hl, Bool.eq_false_iff.mpr hp⟩

/-- The image a successful save has written is the active one, and VALID (R126). -/
theorem State.activeValid_saveSucceeds (s : State) (sv : Save) : (s.saveSucceeds sv).ActiveValid := by
  obtain ⟨-, -, -, hactive, -, hinfo⟩ := s.saveSucceeds_fields sv
  intro i hi
  cases hactive.symm.trans hi
  rw [hinfo, sv.olderInfo_target, perImage_get_set, if_pos rfl]

/-- A failed save leaves the active image and counts (R127). -/
theorem State.saveFails_unit (s : State) (sv : Save) : (s.saveFails sv).activeImage = s.activeImage ∧
    (s.saveFails sv).imageInfo = s.imageInfo.set sv.target { s.imageInfo.get sv.target with state := .invalid } ∧
    (s.saveFails sv).failures = s.failures + 1 ∧ (s.saveFails sv).live = s.live := by
  unfold State.saveFails
  rw [State.placeAnswers_ports]
  exact ⟨rfl, rfl, rfl, rfl⟩

theorem retentionInv_execSaveEnd (ok : Bool) {s t : State} (hs : s.RetentionInv) (h : execSaveEnd ok s = .next t) :
    t.RetentionInv := by
  obtain ⟨hvalid, hallows⟩ := s.retentionInv_iff.mp hs
  cases h
  split
  · next sv w hm =>
    rw [hm] at hallows
    obtain ⟨hf, hl, htarget, -⟩ := hallows
    cases ok with
    | true =>
      have hzero : (s.saveSucceeds sv).failures = 0 ∧ (s.saveSucceeds sv).live = s.live := by
        unfold State.saveSucceeds
        rw [State.placeAnswers_ports]
        exact ⟨rfl, rfl⟩
      exact State.retentionInv_afterSave (s.activeValid_saveSucceeds sv) (hzero.1 ▸ Nat.zero_le 3) (hzero.2.trans hl) w
    | false =>
      obtain ⟨hactive, hinfo, hcount, hlive⟩ := s.saveFails_unit sv
      exact State.retentionInv_afterSave (hvalid.write htarget hactive hinfo) (hcount ▸ hf) (hlive.trans hl) w
  all_goals exact hs

theorem retentionInv_execAuditSegmentEnd (faults : List ArrayFault) {s t : State} (hs : s.RetentionInv)
    (h : execAuditSegmentEnd faults s = .next t) : t.RetentionInv := by
  obtain ⟨hvalid, hallows⟩ := s.retentionInv_iff.mp hs
  cases h
  split
  · next hm =>
    rw [hm] at hallows
    dsimp only
    split
    · refine (State.retentionInv_iff _).mpr ⟨hvalid, ?_⟩
      rw [show State.mode _ = .auditing from hm]
      exact hallows
    · have hidle : ∀ (x : PerImage Image) (a : Audit),
          State.RetentionInv { s with array := x, audit := a, mode := .idle } := fun _ _ =>
        (State.retentionInv_iff _).mpr ⟨hvalid, hallows⟩
      split
      · exact (State.asks_requestSave _ _).retentionInv (hidle _ _)
      · exact hidle _ _
  all_goals exact hs

/-! ## Every step -/

theorem retentionInv_exec (c : Instr) {s t : State} (hs : s.RetentionInv) (h : exec c s = .next t) :
    t.RetentionInv := by
  cases hc : movesUnit c with
  | false => exact (asks_exec hc h).retentionInv hs
  | true =>
    cases c with
    | save p => exact retentionInv_execSave p hs h
    | portReset p frame => exact retentionInv_execPortReset p frame hs h
    | reset cause cut faults => exact retentionInv_execReset cause cut faults hs h
    | loadEnd upTo => exact retentionInv_execLoadEnd upTo hs h
    | pfwAssertion => exact retentionInv_execPfwAssertion hs h
    | pfwRelease => exact retentionInv_execPfwRelease hs h
    | saveEnd ok => exact retentionInv_execSaveEnd ok hs h
    | auditSegmentEnd faults => exact retentionInv_execAuditSegmentEnd faults hs h
    | lossOfPower cut => cases h; exact State.retentionInv_restart _ _
    | rstNRelease selected => exact retentionInv_execRstNRelease selected hs h
    | openMarkingWritten => exact retentionInv_execOpenMarkingWritten hs h
    | _ => cases hc

/-- Settles O11: what is asked of the unit keeps what its state allows, and so does each of its own events. -/
theorem stepKeepsTheRetentionUnitConsistent : Obligations.StepKeepsTheRetentionUnitConsistent := by
  unfold Obligations.StepKeepsTheRetentionUnitConsistent
  intro s t hs hstep
  obtain ⟨-, rfl⟩ | ⟨c, rest, -, hexec⟩ := step_cases hstep
  · exact hs
  · have hqueue : s.SameUnit { s with pending := rest } := ⟨rfl, rfl, rfl, rfl, rfl, rfl, rfl⟩
    exact retentionInv_exec c (hqueue.retentionInv hs) hexec

end Sys2Proof.Machine
end

section
/-! PROOFS. The slots in their states through every step (O12): a slot against the two saves that may hold its port, what
leaves the requesters, and the steps that move slots. -/

namespace Sys2Proof.Machine

/-! ## Sets of ports -/

@[simp] theorem PortSet.get_none (p : Port) : PerPort.get PortSet.none p = false := by cases p <;> rfl

@[simp] theorem unionPorts_none (x : PortSet) : unionPorts x PortSet.none = x := by
  simp only [unionPorts, PortSet.none, Bool.or_false]

theorem get_unionPorts (x y : PortSet) (p : Port) : (unionPorts x y).get p = (x.get p || y.get p) := by
  cases p <;> rfl

theorem PortSet.get_only (p q : Port) : (PortSet.only p).get q = decide (q = p) := by
  rw [PortSet.only, perPort_get_set, PortSet.get_none, ← Bool.decide_coe (if q = p then true else false)]
  simp

/-! ## The requesters of the two saves (R122, R161) -/

/-- The requesters of the save in flight. -/
def RetentionMode.requesters : RetentionMode → PortSet
  | .saving sv _ => sv.requesters
  | _ => PortSet.none

/-- The requesters of the pending save. -/
def RetentionMode.pendingRequesters : RetentionMode → PortSet
  | .saving _ (some x) => x.requesters
  | _ => PortSet.none

/-- A slot fits the saves: `held` tells whether its port is a requester of the save in flight, `waits` whether it is one
of the pending save. -/
structure Slot.Fits (x : Slot) (held waits : Bool) : Prop where
  response : x.response.isSome = true ↔ x.state = .done
  running : x.state = .running ↔ held = true ∨ waits = true
  empty : x.state = .empty → x.code = 0 ∧ x.params = []
  once : ¬ (held = true ∧ waits = true)

theorem State.holdsPort_iff (s : State) (p : Port) :
    s.holdsPort p ↔ s.mode.requesters.get p = true ∨ s.mode.pendingRequesters.get p = true := by
  unfold State.holdsPort
  cases hm : s.mode with
  | saving sv w => cases w <;> simp [RetentionMode.requesters, RetentionMode.pendingRequesters]
  | _ => simp [RetentionMode.requesters, RetentionMode.pendingRequesters]

/-- The invariant, slot by slot. -/
theorem State.slotInv_iff (s : State) :
    s.SlotInv ↔ ∀ p, (s.slot p).Fits (s.mode.requesters.get p) (s.mode.pendingRequesters.get p) := by
  have honce : ∀ p, (∀ sv x, s.mode = .saving sv (some x) → ¬ (sv.requesters.get p = true ∧ x.requesters.get p = true)) ↔
      ¬ (s.mode.requesters.get p = true ∧ s.mode.pendingRequesters.get p = true) := fun p => by
    cases hm : s.mode with
    | saving sv w => cases w <;> simp [RetentionMode.requesters, RetentionMode.pendingRequesters]
    | _ => simp [RetentionMode.requesters]
  refine forall_congr' (fun p => ?_)
  rw [honce p, s.holdsPort_iff p]
  exact ⟨fun ⟨hresponse, hrunning, hempty, hboth⟩ => ⟨hresponse, hrunning, hempty, hboth⟩,
    fun ⟨hresponse, hrunning, hempty, hboth⟩ => ⟨hresponse, hrunning, hempty, hboth⟩⟩

theorem State.SlotInv.fits {s : State} (hs : s.SlotInv) (p : Port) :
    (s.slot p).Fits (s.mode.requesters.get p) (s.mode.pendingRequesters.get p) := s.slotInv_iff.mp hs p

/-- A slot that is not RUNNING has no part in the saves. -/
theorem Slot.Fits.free {x : Slot} {held waits : Bool} (h : x.Fits held waits) (hx : x.state ≠ .running) :
    held = false ∧ waits = false :=
  ⟨Bool.eq_false_iff.mpr (fun hh => hx (h.running.mpr (.inl hh))),
    Bool.eq_false_iff.mpr (fun hw => hx (h.running.mpr (.inr hw)))⟩

theorem Slot.Fits.symm {x : Slot} {held waits : Bool} (h : x.Fits held waits) : x.Fits waits held :=
  ⟨h.response, h.running.trans or_comm, h.empty, fun hb => h.once hb.symm⟩

/-- A slot that is answered holds a response and is done with the saves. -/
theorem Slot.fits_answered (x : Slot) (a : Answer) : (x.answered a).Fits false false where
  response := by simp [Slot.answered]
  running := by simp [Slot.answered]
  empty := by simp [Slot.answered]
  once := by simp

theorem Slot.fits_reset : Slot.reset.Fits false false where
  response := by simp [Slot.reset]
  running := by simp [Slot.reset]
  empty := fun _ => ⟨rfl, rfl⟩
  once := by simp

/-- A requester is answered when its save ends, if its slot is RUNNING (R126, R151). -/
theorem Slot.Fits.answer {x : Slot} {held waits : Bool} (h : x.Fits held waits) (a : Answer) :
    Slot.Fits (if held = true ∧ x.state = .running then x.answered a else x) false waits := by
  cases held with
  | false => simpa using h
  | true =>
    have hrunning := h.running.mpr (.inl rfl)
    have hwaits : waits = false := Bool.eq_false_iff.mpr (fun hw => h.once ⟨rfl, hw⟩)
    rw [if_pos ⟨rfl, hrunning⟩, hwaits]
    exact x.fits_answered a

/-! ## Steps that leave the slots -/

/-- Slots and requesters stay. -/
theorem State.SlotInv.of_same {s t : State} (hs : s.SlotInv) (hslot : ∀ p, t.slot p = s.slot p)
    (hheld : t.mode.requesters = s.mode.requesters) (hwaits : t.mode.pendingRequesters = s.mode.pendingRequesters) :
    t.SlotInv :=
  t.slotInv_iff.mpr (fun p => by rw [hslot, hheld, hwaits]; exact hs.fits p)

/-- The same requesters in both saves. -/
structure State.SameRequesters (s t : State) : Prop where
  requesters : t.mode.requesters = s.mode.requesters
  pending : t.mode.pendingRequesters = s.mode.pendingRequesters

theorem RetentionMode.requesters_unnoted (m : RetentionMode) : m.unnoted.requesters = m.requesters := by cases m <;> rfl

theorem RetentionMode.pendingRequesters_unnoted (m : RetentionMode) :
    m.unnoted.pendingRequesters = m.pendingRequesters := by
  cases m with
  | saving sv w => cases w <;> rfl
  | _ => rfl

theorem State.SameUnit.sameRequesters {s t : State} (h : s.SameUnit t) : s.SameRequesters t where
  requesters := by rw [← t.mode.requesters_unnoted, h.mode, s.mode.requesters_unnoted]
  pending := by rw [← t.mode.pendingRequesters_unnoted, h.mode, s.mode.pendingRequesters_unnoted]

/-- A request that names no port joins the pending save without a requester. -/
theorem pendingRequesters_join (sv : Save) (w : Option PendingSave) (c : Causes) :
    (RetentionMode.saving sv (some (joinPending w .none c))).pendingRequesters =
      (RetentionMode.saving sv w).pendingRequesters := by
  cases w with
  | none => rfl
  | some x => exact unionPorts_none x.requesters

theorem State.Ask.sameRequesters {s t : State} (h : s.Ask t) : s.SameRequesters t := by
  cases h with
  | nothing h => exact h.sameRequesters
  | save c hm => exact ⟨by rw [hm]; rfl, by rw [hm]; rfl⟩
  | @join c sv w hm => exact ⟨by rw [hm]; rfl, by rw [hm]; exact pendingRequesters_join sv w c⟩
  | abort hm => exact ⟨by rw [hm]; rfl, by rw [hm]; rfl⟩
  | audit hm => exact ⟨by rw [hm]; rfl, by rw [hm]; rfl⟩

theorem State.Asks.sameRequesters {s t : State} (h : s.Asks t) : s.SameRequesters t :=
  State.Asks.induct (P := fun t => s.SameRequesters t)
    (fun _ _ hask hst => ⟨hask.sameRequesters.requesters.trans hst.requesters,
      hask.sameRequesters.pending.trans hst.pending⟩) h ⟨rfl, rfl⟩

theorem State.slot_of_ports {s t : State} (h : t.ports = s.ports) (p : Port) : t.slot p = s.slot p := by
  rw [State.slot, h]; rfl

/-- A step that asks of the unit and leaves the port units. -/
theorem State.Asks.slotInv {s t : State} (h : s.Asks t) (hports : t.ports = s.ports) (hs : s.SlotInv) : t.SlotInv :=
  hs.of_same (State.slot_of_ports hports) h.sameRequesters.requesters h.sameRequesters.pending

/-- A retention state without a save has no requesters. -/
theorem RetentionMode.requesters_none {m : RetentionMode} (h : ∀ sv w, m ≠ .saving sv w) :
    m.requesters = PortSet.none ∧ m.pendingRequesters = PortSet.none := by
  cases m with
  | saving sv w => exact absurd rfl (h sv w)
  | _ => exact ⟨rfl, rfl⟩

/-! ## A command of 10.2 (R5, R160) -/

section
variable {s : State} (hs : s.SlotInv)
include hs

/-- The port of a command that is taken is a requester of no save. -/
theorem State.SlotInv.granted {p : Port} (hn : s.nextGrant = some p) :
    s.mode.requesters.get p = false ∧ s.mode.pendingRequesters.get p = false :=
  (hs.fits p).free (by rw [State.waiting_of_nextGrant hn]; simp)

/-- An answer ends a command of its own port; every other slot stays. -/
theorem State.SlotInv.answered {t : State} {p : Port} {a : Answer} (hn : s.nextGrant = some p)
    (hports : t.ports = (s.answered p a).ports) (hsame : s.SameRequesters t) : t.SlotInv := by
  obtain ⟨hheld, hwaits⟩ := hs.granted hn
  refine t.slotInv_iff.mpr (fun q => ?_)
  have hslot : t.slot q = if q = p then (s.slot p).answered a else s.slot q := by
    rw [State.slot, hports, State.answered_ports, perPort_get_set]
    split <;> rfl
  rw [hslot, hsame.requesters, hsame.pending]
  split
  · next hq => rw [hq, hheld, hwaits]; exact (s.slot p).fits_answered a
  · exact hs.fits q

theorem State.SlotInv.takeCommand {p : Port} {test : Byte → Bool} {request : List Byte → State → State × Answer}
    (hoff : ∀ ps t, State.OffSlots t (request ps t).1) (hasks : ∀ ps t, State.Asks t (request ps t).1) :
    (s.takeCommand p test request).SlotInv := by
  unfold State.takeCommand
  split
  · next htake =>
    obtain ⟨-, hn, -⟩ := (s.canTake_iff p test).mp htake
    refine hs.answered hn (State.placeAnswer_after_grant (hoff _ _) _) (State.Asks.sameRequesters ?_)
    exact ((s.sameUnit_grant p).asks.trans (hasks _ _)).trans (State.sameUnit_placeAnswer _ _ _).asks
  · exact hs

/-- The slots of a port granted a SAVE that makes it a requester (R161). -/
theorem State.SlotInv.requested {t : State} {p : Port} (hn : s.nextGrant = some p)
    (hports : t.ports = (s.grant p).ports)
    (hheld : ∀ q, (t.mode.requesters.get q = true ∨ t.mode.pendingRequesters.get q = true) ↔
      q = p ∨ s.mode.requesters.get q = true ∨ s.mode.pendingRequesters.get q = true)
    (honce : ∀ q, ¬ (t.mode.requesters.get q = true ∧ t.mode.pendingRequesters.get q = true)) : t.SlotInv := by
  refine t.slotInv_iff.mpr (fun q => ?_)
  have hslot : t.slot q = if q = p then { s.slot p with state := .running } else s.slot q := by
    rw [State.slot, hports, State.grant_ports, perPort_get_set]
    split <;> rfl
  have hresponse : (s.slot p).response.isSome = false := by
    have hfits := (hs.fits p).response
    rw [State.waiting_of_nextGrant hn] at hfits
    exact Bool.eq_false_iff.mpr (fun h => nomatch hfits.mp h)
  rw [hslot]
  split
  · next hq =>
    subst hq
    exact ⟨by simp [hresponse], ⟨fun _ => (hheld q).mpr (.inl rfl), fun _ => rfl⟩, by simp, honce q⟩
  · next hq =>
    have hfits := hs.fits q
    exact ⟨hfits.response, hfits.running.trans ((hheld q).trans (or_iff_right hq)).symm, hfits.empty, honce q⟩

/-- A save that starts for one port: it is the only requester (R120). -/
theorem State.SlotInv.startedFor {u : State} {p : Port} (hn : s.nextGrant = some p) (hm : ∀ sv w, s.mode ≠ .saving sv w)
    (hports : u.ports = (s.grant p).ports) (c : Causes) : (u.startSave (PortSet.only p) c).SlotInv := by
  obtain ⟨hheld, hwaits⟩ := RetentionMode.requesters_none hm
  refine hs.requested hn hports (fun q => ?_) (fun q => ?_)
  · show ((PortSet.only p).get q = true ∨ PerPort.get PortSet.none q = true) ↔ _
    simp [PortSet.get_only, hheld, hwaits]
  · show ¬ ((PortSet.only p).get q = true ∧ PerPort.get PortSet.none q = true)
    simp

/-- A SAVE while one is in flight: its port joins the pending save (R122). -/
theorem State.SlotInv.joinedBy {p : Port} (hn : s.nextGrant = some p) {sv : Save} {w : Option PendingSave}
    (hm : s.mode = .saving sv w) (c : Causes) :
    State.SlotInv { s.grant p with mode := .saving sv (some (joinPending w (PortSet.only p) c)) } := by
  have hpending : ∀ q, (RetentionMode.saving sv (some (joinPending w (PortSet.only p) c))).pendingRequesters.get q =
      (s.mode.pendingRequesters.get q || decide (q = p)) := fun q => by
    rw [hm]
    cases w with
    | none => exact (PortSet.get_only p q).trans (by simp [RetentionMode.pendingRequesters])
    | some x => exact (get_unionPorts _ _ q).trans (by rw [PortSet.get_only]; rfl)
  have hheld : sv.requesters = s.mode.requesters := by rw [hm]; rfl
  obtain ⟨hfree, -⟩ := hs.granted hn
  refine hs.requested hn rfl (fun q => ?_) (fun q => ?_)
  · show (sv.requesters.get q = true ∨ PerPort.get _ q = true) ↔ _
    rw [hpending, hheld, Bool.or_eq_true, decide_eq_true_iff]
    tauto
  · show ¬ (sv.requesters.get q = true ∧ PerPort.get _ q = true)
    rw [hpending, hheld, Bool.or_eq_true, decide_eq_true_iff]
    rintro ⟨hq, hw | rfl⟩
    · exact (hs.fits q).once ⟨hq, hw⟩
    · exact nomatch hfree.symm.trans hq

/-- SAVE at its grant: answered, or its port is a requester and its slot stays RUNNING (R120, R121, R161). -/
theorem State.SlotInv.requestPortSave {p : Port} (hn : s.nextGrant = some p) :
    ((s.grant p).requestPortSave p).SlotInv := by
  have hanswer : ∀ a, ((s.grant p).placeAnswer p a).SlotInv := fun a => by
    rw [s.placeAnswer_grant]
    exact hs.answered hn rfl ⟨rfl, rfl⟩
  unfold State.requestPortSave
  split
  · exact hanswer _
  · next hm =>
    split
    · exact hanswer _
    · exact hs.startedFor hn (fun sv w h => nomatch (show s.mode = .idle from hm).symm.trans h) rfl _
  · next hm =>
    split
    · exact hanswer _
    · exact hs.startedFor hn (fun sv w h => nomatch (show s.mode = .auditing from hm).symm.trans h) rfl _
  · next hm =>
    split
    · exact hanswer _
    · exact hs.joinedBy hn hm _
  · exact hanswer _
  · exact hanswer _

end

theorem slotInv_execSave (p : Port) {s t : State} (hs : s.SlotInv) (h : execSave p s = .next t) : t.SlotInv := by
  cases h
  split
  · next htake =>
    obtain ⟨-, hn, -⟩ := (s.canTake_iff p _).mp htake
    split
    · exact hs.requestPortSave hn
    · rw [s.placeAnswer_grant]
      exact hs.answered hn rfl ⟨rfl, rfl⟩
  · exact hs

theorem slotInv_exec_command {c : Instr} {p : Port} {code : Byte} (hc : portAndCode c = some (p, code)) {s t : State}
    (hs : s.SlotInv) (h : exec c s = .next t) : t.SlotInv := by
  by_cases hsave : code = 0x60
  · obtain rfl := eq_save_of_code (hsave ▸ hc)
    exact slotInv_execSave p hs h
  · rw [exec_command hc hsave] at h
    cases h
    exact hs.takeCommand (offSlots_commandRequest c) (asks_commandRequest c)

/-! ## Frames (R149 to R157) -/

section
variable {s : State} (hs : s.SlotInv)
include hs

/-- One slot written, with the requesters as they were. -/
theorem State.SlotInv.setPort {p : Port} {u : PortUnit}
    (hu : u.slot.Fits (s.mode.requesters.get p) (s.mode.pendingRequesters.get p)) : (s.setPort p u).SlotInv := by
  refine (State.slotInv_iff _).mpr (fun q => ?_)
  rw [State.slot_setPort]
  split
  · next hq => rw [hq]; exact hu
  · exact hs.fits q

/-- A frame that leaves its port's slot. -/
theorem State.SlotInv.setUnit {p : Port} {u : PortUnit} (hu : u.slot = s.slot p) : (s.setPort p u).SlotInv :=
  hs.setPort (hu ▸ hs.fits p)

theorem State.SlotInv.takeFrame {p : Port} {k : PortUnit → State} (h : (k (s.ports.get p)).SlotInv) :
    (s.takeFrame p k).SlotInv := by
  obtain hdead | hignored | htaken := s.takeFrame_cases p k
  · rw [hdead]; exact hs
  · rw [hignored]; exact hs.setUnit rfl
  · rw [htaken]; exact h

end

/-- A COMMAND frame is accepted into an EMPTY slot alone (R149). -/
theorem empty_of_accepted {bytes : List Byte} {x : SlotState} (h : judgeCommand bytes x = .accepted) : x = .empty := by
  by_contra hx
  revert h
  simp only [judgeCommand, ne_eq, hx, not_false_eq_true, if_true]
  repeat' split
  all_goals simp

theorem slotInv_execCommandFrame (p : Port) (bytes : List Byte) {s t : State} (hs : s.SlotInv)
    (h : execCommandFrame p bytes s = .next t) : t.SlotInv := by
  cases h
  refine hs.takeFrame ?_
  dsimp only
  split
  · next haccepted =>
    have hempty : (s.slot p).state = .empty := empty_of_accepted haccepted
    obtain ⟨hheld, hwaits⟩ := (hs.fits p).free (by rw [hempty]; simp)
    refine hs.setPort ?_
    rw [hheld, hwaits]
    exact ⟨by simp [acceptCommand], by simp [acceptCommand], by simp [acceptCommand], by simp⟩
  · exact hs.setUnit rfl

/-- A response clocked out in full leaves an EMPTY slot (R154). -/
theorem slotInv_execFetch (p : Port) (n : Nat) {s t : State} (hs : s.SlotInv) (h : execFetch p n s = .next t) :
    t.SlotInv := by
  cases h
  refine hs.takeFrame ?_
  dsimp only
  split
  · next hdone _ =>
    obtain ⟨hheld, hwaits⟩ := (hs.fits p).free (by rw [show (s.slot p).state = .done from hdone]; simp)
    refine hs.setPort ?_
    dsimp only
    split
    · rw [hheld, hwaits]
      exact ⟨Slot.fits_reset.response, Slot.fits_reset.running, Slot.fits_reset.empty, Slot.fits_reset.once⟩
    · exact hs.fits p
  · exact hs.setUnit rfl

theorem slotInv_execBadKindFrame (p : Port) (kind : Option Byte) (n : Nat) {s t : State} (hs : s.SlotInv)
    (h : execBadKindFrame p kind n s = .next t) : t.SlotInv := by
  cases h
  split
  · exact hs.takeFrame hs
  · split
    · exact hs
    · exact hs.takeFrame (hs.setUnit rfl)

/-- A PORT RESET takes its port from both saves and leaves the other ports (R123). -/
theorem RetentionMode.removePort_requesters (m : RetentionMode) (p q : Port) :
    (m.removePort p).requesters.get q = (if q = p then false else m.requesters.get q) ∧
    (m.removePort p).pendingRequesters.get q = (if q = p then false else m.pendingRequesters.get q) := by
  cases m with
  | saving sv w =>
    refine ⟨perPort_get_set _ _ _ _, ?_⟩
    cases w with
    | none => simp [RetentionMode.removePort, RetentionMode.pendingRequesters]
    | some x =>
      by_cases hwanted : x.WantedWithout p
      · rw [RetentionMode.removePort_wanted hwanted]
        exact perPort_get_set _ _ _ _
      · rw [RetentionMode.removePort_unwanted hwanted]
        have hnone : (x.requesters.set p false).get q = false :=
          Bool.eq_false_iff.mpr (fun hq => hwanted (.inl ⟨q, hq⟩))
        exact (PortSet.get_none q).trans (hnone.symm.trans (perPort_get_set _ _ _ _))
  | _ => simp [RetentionMode.removePort, RetentionMode.requesters, RetentionMode.pendingRequesters]

/-- A whole PORT RESET empties its slot, however it finds it (R157). -/
theorem State.slotInv_resetPort {s u : State} (hs : s.SlotInv) {p : Port} (hmode : u.mode = s.mode)
    (hslot : ∀ q, q ≠ p → u.slot q = s.slot q) : (u.resetPort p).SlotInv := by
  refine (State.slotInv_iff _).mpr (fun q => ?_)
  obtain ⟨hheld, hwaits⟩ := s.mode.removePort_requesters p q
  have hunit : (u.resetPort p).mode = s.mode.removePort p ∧
      (u.resetPort p).slot q = if q = p then Slot.reset else u.slot q := by
    unfold State.resetPort
    rw [State.freeProposalsOf_eq_freed, State.slot_setSlot, ← hmode]
    exact ⟨rfl, rfl⟩
  rw [hunit.1, hunit.2, hheld, hwaits]
  split
  · exact Slot.fits_reset
  · next hq => rw [hslot q hq]; exact hs.fits q

theorem slotInv_execPortReset (p : Port) (frame : ResetFrame) {s t : State} (hs : s.SlotInv)
    (h : execPortReset p frame s = .next t) : t.SlotInv := by
  have hothers : ∀ (v : State) (u : PortUnit), (∀ q, q ≠ p → v.slot q = s.slot q) →
      ∀ q, q ≠ p → (v.setPort p u).slot q = s.slot q := fun v u hv q hq => by
    rw [State.slot_setPort, if_neg hq, hv q hq]
  cases h
  refine hs.takeFrame ?_
  dsimp only
  split
  · split
    · have hgrant : ∀ q, q ≠ p → (s.grant p).slot q = s.slot q := fun q hq => by
        rw [State.slot, State.grant_ports, perPort_get_set, if_neg hq]; rfl
      have hreset : ∀ u, (((s.grant p).setPort p u).resetPort p).SlotInv := fun u =>
        State.slotInv_resetPort hs rfl (hothers _ u hgrant)
      refine (asks_effectOf _ _ _ _).slotInv ?_ (hreset _)
      obtain h | ⟨c, -, -, h⟩ := effectOf_cases p _ _ _ <;> rw [h]
      exact (offSlots_commandRequest c _ _).ports
    · exact State.slotInv_resetPort hs rfl (hothers s _ (fun _ _ => rfl))
  · exact hs.setUnit rfl

/-! ## The end of a save (R126 to R129) -/

theorem State.slot_placeAnswer (s : State) (p q : Port) (a : Answer) :
    (s.placeAnswer p a).slot q = if q = p ∧ (s.slot p).state = .running then (s.slot p).answered a else s.slot q := by
  obtain ⟨hrunning, h⟩ | ⟨hrunning, h⟩ := s.placeAnswer_cases p a
  · rw [h, State.slot_setSlot]
    simp only [hrunning, and_true]
    rfl
  · rw [h, if_neg (fun hq => hrunning hq.2)]

/-- Answers go to the RUNNING slots of their ports alone. -/
theorem State.slot_placeAnswers (s : State) (who : PortSet) (a : Answer) (p : Port) :
    (s.placeAnswers who a).slot p =
      if who.get p = true ∧ (s.slot p).state = .running then (s.slot p).answered a else s.slot p := by
  have hone : ∀ (u : State) (q : Port), (if who.get q = true then u.placeAnswer q a else u).slot p =
      if p = q ∧ who.get p = true ∧ (u.slot p).state = .running then (u.slot p).answered a else u.slot p :=
    fun u q => by
      by_cases hq : p = q
      · subst hq
        cases hw : who.get p <;> simp [State.slot_placeAnswer]
      · cases hw : who.get q <;> simp [State.slot_placeAnswer, hq]
  simp only [State.placeAnswers, allPorts, List.foldl_cons, List.foldl_nil, hone]
  cases p <;> simp

/-- Once the requesters of the save in flight have their answers, only those of the pending save are RUNNING. -/
theorem State.SlotInv.answeredSave {s t : State} (hs : s.SlotInv) (hports : t.ports = s.ports) (a : Answer) (p : Port) :
    ((t.placeAnswers s.mode.requesters a).slot p).Fits false (s.mode.pendingRequesters.get p) := by
  rw [State.slot_placeAnswers, State.slot_of_ports hports]
  exact (hs.fits p).answer a

/-- What follows a save holds the ports of the pending save, or answers them (R128, R129). -/
theorem State.slotInv_afterSave {s : State} {sv : Save} {w : Option PendingSave}
    (hs : ∀ p, (s.slot p).Fits false ((RetentionMode.saving sv w).pendingRequesters.get p)) :
    (s.afterSave w).SlotInv := by
  have hfree : ∀ m : RetentionMode, (∀ sv x, m ≠ .saving sv x) → w = none → State.SlotInv { s with mode := m } :=
    fun m hm hnone => by
      subst hnone
      refine (State.slotInv_iff _).mpr (fun p => ?_)
      show (s.slot p).Fits (m.requesters.get p) (m.pendingRequesters.get p)
      obtain ⟨hheld, hwaits⟩ := RetentionMode.requesters_none hm
      rw [hheld, hwaits]
      exact (PortSet.get_none p) ▸ hs p
  unfold State.afterSave
  split
  · dsimp only
    split
    · refine (State.slotInv_iff _).mpr (fun p => ?_)
      rw [State.slot_placeAnswers, State.placeAnswers_ports]
      exact (PortSet.get_none p).symm ▸ (hs p).symm.answer _
    · exact hfree .faulted (fun _ _ => nofun) rfl
  · split
    · refine (State.slotInv_iff _).mpr (fun p => ?_)
      exact (PortSet.get_none p).symm ▸ (hs p).symm
    · split
      · exact hfree .held (fun _ _ => nofun) rfl
      · exact hfree .idle (fun _ _ => nofun) rfl

theorem slotInv_execSaveEnd (ok : Bool) {s t : State} (hs : s.SlotInv) (h : execSaveEnd ok s = .next t) :
    t.SlotInv := by
  cases h
  split
  · next sv w hm =>
    have hheld : sv.requesters = s.mode.requesters := by rw [hm]; rfl
    have hsucceeds : ∀ p, ((s.saveSucceeds sv).slot p).Fits false (s.mode.pendingRequesters.get p) := fun p => by
      unfold State.saveSucceeds
      dsimp only
      rw [hheld]
      refine hs.answeredSave ?_ _ p
      rfl
    have hfails : ∀ p, ((s.saveFails sv).slot p).Fits false (s.mode.pendingRequesters.get p) := fun p => by
      unfold State.saveFails
      rw [hheld]
      refine hs.answeredSave ?_ _ p
      rfl
    rw [hm] at hsucceeds hfails
    cases ok with
    | true => exact State.slotInv_afterSave hsucceeds
    | false => exact State.slotInv_afterSave hfails
  all_goals exact hs

/-! ## Reset, load and the other events of the unit -/

/-- A part restarted has EMPTY slots and no save. -/
theorem State.slotInv_restart (s : State) (array : PerImage Image) : (s.restart array).SlotInv :=
  State.SlotInv.of_same reset_slotInv (fun p => by cases p <;> rfl) rfl rfl

/-- A frame open at power-on or at the release of RST_N has no part in the slots (R163). -/
theorem State.SlotInv.marked {s : State} (hs : s.SlotInv) (selected : PortSet) (rst : Bool) :
    State.SlotInv { s with rstAsserted := rst, ports := markOpenFrames selected s.ports } :=
  hs.of_same (fun p => by rw [State.slot, markOpenFrames_get]; rfl) rfl rfl

theorem slotInv_execReset (cause : ResetCause) (cut : CutPoint) (faults : List ArrayFault) {s t : State}
    (hs : s.SlotInv) (h : execReset cause cut faults s = .next t) : t.SlotInv := by
  cases h
  split
  · next selected => exact (State.slotInv_restart _ _).marked selected s.rstAsserted
  · split
    · exact State.slotInv_restart _ _
    · exact hs.of_same (fun _ => rfl) rfl rfl

/-- The load ends without a save in flight. -/
theorem finishLoad_requesters (s : State) :
    s.finishLoad.mode.requesters = PortSet.none ∧ s.finishLoad.mode.pendingRequesters = PortSet.none :=
  RetentionMode.requesters_none (fun sv w h => by
    have hmode : s.finishLoad.mode = if s.pfwAsserted then .held else .idle := rfl
    rw [hmode] at h
    split at h <;> cases h)

theorem slotInv_execLoadEnd (upTo : LoadPoint) {s t : State} (hs : s.SlotInv) (h : execLoadEnd upTo s = .next t) :
    t.SlotInv := by
  cases h
  split
  · next hload =>
    have hm : s.mode = .loading := eq_of_beq (Bool.and_eq_true_iff.mp hload).2
    have hbuild : (if s.loadBuilt then s else s.buildLoad).ports = s.ports ∧
        s.SameUnit (if s.loadBuilt then s else s.buildLoad) := by
      split
      · exact ⟨rfl, .refl s⟩
      · refine ⟨?_, s.sameUnit_buildLoad⟩
        unfold State.buildLoad State.loadVerdict
        rw [s.loadImage_frame]
        dsimp only
        split <;> rfl
    have hinv := hbuild.2.asks.slotInv hbuild.1 hs
    dsimp only
    split
    · exact hinv
    · obtain ⟨hheld, hwaits⟩ := RetentionMode.requesters_none (m := s.mode) (fun sv w h => nomatch hm.symm.trans h)
      refine hs.of_same (State.slot_of_ports (t := State.finishLoad _) hbuild.1) ?_ ?_
      · rw [hheld]; exact (finishLoad_requesters _).1
      · rw [hwaits]; exact (finishLoad_requesters _).2
  · exact hs

theorem slotInv_execPfwAssertion {s t : State} (hs : s.SlotInv) (h : execPfwAssertion s = .next t) : t.SlotInv := by
  have hports : t.ports = s.ports := (congrArg State.ports (timed_execPfwAssertion h)).trans rfl
  have hlevel : State.SlotInv { s with pfwAsserted := true } := hs.of_same (fun _ => rfl) rfl rfl
  cases h
  split
  · exact hs
  · split
    · next hasserted hlive =>
      rw [if_neg hasserted, if_pos hlive] at hports
      revert hports
      unfold State.powerFails
      split
      · next hm => exact fun hports => (State.Ask.save .ofPowerFail hm).asks.slotInv hports hlevel
      · next hm =>
        exact fun hports => ((State.Ask.abort hm (.inl rfl)).asks.trans
          (State.Ask.save (s := State.abortAudit _ _) .ofPowerFail rfl).asks).slotInv hports hlevel
      · next hm => exact fun hports => (State.Ask.join .ofPowerFail hm).asks.slotInv hports hlevel
      all_goals exact fun _ => hlevel
    · exact hlevel

theorem slotInv_execPfwRelease {s t : State} (hs : s.SlotInv) (h : execPfwRelease s = .next t) : t.SlotInv := by
  cases h
  split
  · split
    · next hm => exact hs.of_same (fun _ => rfl) (by rw [hm]; rfl) (by rw [hm]; rfl)
    all_goals exact hs.of_same (fun _ => rfl) rfl rfl
  · exact hs

theorem slotInv_execOpenMarkingWritten {s t : State} (hs : s.SlotInv) (h : execOpenMarkingWritten s = .next t) :
    t.SlotInv := by
  cases h
  split
  · next sv w hm =>
    split
    · refine hs.of_same (fun _ => rfl) (by rw [hm]; rfl) ?_
      rw [hm]
      cases w <;> rfl
    · exact hs
  all_goals exact hs

theorem slotInv_execAuditSegmentEnd (faults : List ArrayFault) {s t : State} (hs : s.SlotInv)
    (h : execAuditSegmentEnd faults s = .next t) : t.SlotInv := by
  cases h
  split
  · next hm =>
    dsimp only
    split
    · exact hs.of_same (fun _ => rfl) rfl rfl
    · have hidle : ∀ (x : PerImage Image) (a : Audit), State.SlotInv { s with array := x, audit := a, mode := .idle } :=
        fun _ _ => hs.of_same (fun _ => rfl) (by rw [hm]; rfl) (by rw [hm]; rfl)
      split
      · refine (State.asks_requestSave _ _).slotInv ?_ (hidle _ _)
        exact (congrArg State.ports (State.unitMoves_requestSave _ _)).trans rfl
      · exact hidle _ _
  all_goals exact hs

/-! ## The events of the table and of time -/

/-- A step that is taken or not leaves the port units. -/
theorem State.ports_ite {s t : State} {c : Prop} [Decidable c] (h : t.ports = s.ports) :
    (if c then t else s).ports = s.ports := by
  split
  · exact h
  · rfl

/-- The events that are neither a frame nor the unit's own leave the port units. -/
theorem ports_exec_event {c : Instr} (hcode : portAndCode c = none) (hc : movesUnit c = false)
    (hframe : ∀ p, c ≠ .unknownCommand p ∧ (∀ bytes, c ≠ .commandFrame p bytes) ∧ (∀ n, c ≠ .poll p n) ∧
      (∀ n, c ≠ .fetch p n) ∧ ∀ kind n, c ≠ .badKindFrame p kind n) {s t : State} (h : exec c s = .next t) :
    t.ports = s.ports := by
  cases c with
  | unknownCommand p => exact absurd rfl (hframe p).1
  | commandFrame p bytes => exact absurd rfl ((hframe p).2.1 bytes)
  | poll p n => exact absurd rfl ((hframe p).2.2.1 n)
  | fetch p n => exact absurd rfl ((hframe p).2.2.2.1 n)
  | badKindFrame p kind n => exact absurd rfl ((hframe p).2.2.2.2 kind n)
  | tick => exact (congrArg State.ports (execTick_frame h).1).trans rfl
  | intervalTimerExpiry => exact (congrArg State.ports (timed_execIntervalTimerExpiry h)).trans rfl
  | pulseFold i => exact (congrArg State.ports (eventOutcome_execPulseFold h).frame).trans rfl
  | windowClose w => exact (congrArg State.ports (eventOutcome_execWindowClose h).frame).trans rfl
  | earlyLook w => exact (congrArg State.ports (eventOutcome_execEarlyLook h).frame).trans rfl
  | windowTickDecrement w => exact (congrArg State.ports (execWindowTickDecrement_frame h).1).trans rfl
  | windowEventDecrement n => exact (congrArg State.ports (execWindowEventDecrement_frame h).1).trans rfl
  | uptimeSecond => cases h; exact State.ports_ite rfl
  | eventInputReturn i => cases h; exact State.ports_ite rfl
  | filterWidthElapsed i => cases h; exact State.ports_ite rfl
  | proposalExpiry k =>
    cases h
    split
    · exact State.ports_ite (s.offSlots_closeProposal _ _).ports
    · rfl
  | eventInputEdge i soon =>
    cases h
    split
    · rfl
    · split
      · rfl
      · split
        · rfl
        · split
          · rfl
          · split <;> rfl
  | portReset | reset | loadEnd | pfwAssertion | pfwRelease | saveEnd | auditSegmentEnd | lossOfPower | rstNRelease
  | openMarkingWritten => cases hc
  | _ => cases hcode

/-! ## Every step -/

theorem slotInv_exec (c : Instr) {s t : State} (hs : s.SlotInv) (h : exec c s = .next t) : t.SlotInv := by
  cases hcode : portAndCode c with
  | some x => exact slotInv_exec_command (show portAndCode c = some (x.1, x.2) from hcode) hs h
  | none =>
    cases c with
    | unknownCommand p => cases h; exact hs.takeCommand (fun _ t => .refl t) (fun _ t => .refl t)
    | commandFrame p bytes => exact slotInv_execCommandFrame p bytes hs h
    | poll p n => cases h; exact hs.takeFrame (hs.setUnit rfl)
    | fetch p n => exact slotInv_execFetch p n hs h
    | badKindFrame p kind n => exact slotInv_execBadKindFrame p kind n hs h
    | portReset p frame => exact slotInv_execPortReset p frame hs h
    | reset cause cut faults => exact slotInv_execReset cause cut faults hs h
    | loadEnd upTo => exact slotInv_execLoadEnd upTo hs h
    | pfwAssertion => exact slotInv_execPfwAssertion hs h
    | pfwRelease => exact slotInv_execPfwRelease hs h
    | saveEnd ok => exact slotInv_execSaveEnd ok hs h
    | auditSegmentEnd faults => exact slotInv_execAuditSegmentEnd faults hs h
    | lossOfPower cut => cases h; exact State.slotInv_restart _ _
    | rstNRelease selected =>
      cases h
      split
      · exact hs.marked selected false
      · exact hs
    | openMarkingWritten => exact slotInv_execOpenMarkingWritten hs h
    | tick | uptimeSecond | proposalExpiry | intervalTimerExpiry | eventInputEdge | eventInputReturn
    | filterWidthElapsed | pulseFold | windowTickDecrement | windowEventDecrement | windowClose | earlyLook =>
      exact (asks_exec rfl h).slotInv (ports_exec_event rfl rfl (fun _ => by simp) h) hs
    | _ => cases hcode

/-- Settles O12: what is asked of the unit leaves the requesters, and each step that moves a slot moves them. -/
theorem stepKeepsSlotsInTheirStates : Obligations.StepKeepsSlotsInTheirStates := by
  unfold Obligations.StepKeepsSlotsInTheirStates
  intro s t hs hstep
  obtain ⟨-, rfl⟩ | ⟨c, rest, -, hexec⟩ := step_cases hstep
  · exact hs
  · exact slotInv_exec c (s := { s with pending := rest }) (hs.of_same (fun _ => rfl) rfl rfl) hexec

end Sys2Proof.Machine
end

section
/-! PROOFS. The retention unit at work: how a save is asked for, starts and ends, and the power-fail warning (O44 to O47). -/

namespace Sys2Proof.Machine

/-! ## Save requests (R120 to R122) -/

/-- SAVE at its grant goes to the retention unit. -/
theorem exec_save_of_granted {s : State} {p : Port} (h : s.Granted p 0x60 []) :
    exec (.save p) s = .next ((s.grant p).requestPortSave p) := by
  show execSave p s = _
  rw [execSave, if_pos (State.canTake_of_granted h rfl), h.params]
  rfl

/-- A SAVE that is answered at once ends as every command does. -/
theorem State.requestPortSave_faulted {s : State} (hm : s.mode = .faulted) (p : Port) :
    (s.grant p).requestPortSave p = s.answered p ⟨.retentionFault, []⟩ := by
  simp only [State.requestPortSave, State.grant_mode, hm, s.placeAnswer_grant]

theorem State.requestPortSave_held {s : State} (hm : s.mode = .held) (p : Port) :
    (s.grant p).requestPortSave p = s.answered p ⟨.held, []⟩ := by
  simp only [State.requestPortSave, State.grant_mode, hm, s.placeAnswer_grant]

/-- Under the power-fail warning a SAVE is answered HELD, unless the unit is FAULTED. -/
theorem State.requestPortSave_warned {s : State} (hm : s.mode ≠ .faulted) (hw : s.pfwAsserted = true) (p : Port) :
    (s.grant p).requestPortSave p = s.answered p ⟨.held, []⟩ := by
  have hwarned : (s.grant p).pfwAsserted = true := hw
  unfold State.requestPortSave
  rw [hwarned, ← s.placeAnswer_grant]
  split
  · next hfaulted => exact absurd hfaulted hm
  all_goals rfl

section
variable {s : State} (hw : s.pfwAsserted = false)
include hw

theorem State.requestPortSave_idle (hm : s.mode = .idle) (p : Port) :
    s.requestPortSave p = s.startSave (PortSet.only p) .ofPort := by
  simp only [State.requestPortSave, hm, hw, Bool.false_eq_true, if_false]

theorem State.requestPortSave_auditing (hm : s.mode = .auditing) (p : Port) :
    s.requestPortSave p = (s.abortAudit .abortedBySave).startSave (PortSet.only p) .ofPort := by
  simp only [State.requestPortSave, hm, hw, Bool.false_eq_true, if_false]

theorem State.requestPortSave_saving {sv : Save} {w : Option PendingSave} (hm : s.mode = .saving sv w) (p : Port) :
    s.requestPortSave p = { s with mode := .saving sv (some (joinPending w (PortSet.only p) .ofPort)) } := by
  simp only [State.requestPortSave, hm, hw, Bool.false_eq_true, if_false]

theorem State.requestSave_idle (hm : s.mode = .idle) (c : Causes) : s.requestSave c = s.startSave .none c := by
  simp only [State.requestSave, hm, hw, Bool.false_eq_true, if_false]

theorem State.requestSave_auditing (hm : s.mode = .auditing) (c : Causes) :
    s.requestSave c = (s.abortAudit .abortedBySave).startSave .none c := by
  simp only [State.requestSave, hm, hw, Bool.false_eq_true, if_false]

theorem State.requestSave_saving {sv : Save} {w : Option PendingSave} (hm : s.mode = .saving sv w) (c : Causes) :
    s.requestSave c = { s with mode := .saving sv (some (joinPending w .none c)) } := by
  simp only [State.requestSave, hm, hw, Bool.false_eq_true, if_false]

end

theorem Causes.union_ofPort (c : Causes) : c.union .ofPort = { c with port := true } := by
  simp [Causes.union, Causes.ofPort, Causes.none]

theorem Causes.union_ofPowerFail (c : Causes) : c.union .ofPowerFail = { c with powerFail := true } := by
  simp [Causes.union, Causes.ofPowerFail, Causes.none]

/-- The causes of the pending save that a SAVE joins. -/
theorem causes_joinPending_ofPort (w : Option PendingSave) (who : PortSet) :
    (joinPending w who .ofPort).causes =
      { (match w with | some y => y.causes | none => Causes.none) with port := true } := by
  cases w with
  | none => rfl
  | some y => exact y.causes.union_ofPort

/-- The requesters of the pending save that a SAVE joins. -/
theorem requesters_joinPending_only (w : Option PendingSave) (p : Port) (c : Causes) (q : Port) :
    (joinPending w (PortSet.only p) c).requesters.get q = true ↔
      q = p ∨ ∃ y, w = some y ∧ y.requesters.get q = true := by
  cases w with
  | none => simp [joinPending, PortSet.get_only]
  | some y => simp [joinPending, get_unionPorts, PortSet.get_only, or_comm]

/-- A request that names no port leaves the requesters of the pending save. -/
theorem joinPending_none (x : PendingSave) (c : Causes) :
    joinPending (some x) .none c = ⟨x.requesters, x.causes.union c⟩ := by
  simp only [joinPending, unionPorts_none]

theorem State.requestSave_refused {s : State} (c : Causes)
    (h : s.pfwAsserted = true ∨ s.mode = .held ∨ s.mode = .faulted) : s.requestSave c = s := by
  unfold State.requestSave
  split
  · rfl
  · next hwarned =>
    obtain h | h | h := h
    · exact absurd h hwarned
    all_goals rw [h]

/-- Settles O44: SAVE by the mode it finds, and a request that names no port likewise. -/
theorem saveRequestsAreHandledByTheStateTheyFind : Obligations.SaveRequestsAreHandledByTheStateTheyFind := by
  unfold Obligations.SaveRequestsAreHandledByTheStateTheyFind
  refine ⟨fun s p h => ?_, fun s c => ⟨s.requestSave_refused c, fun hm hw => ?_, fun hm hw => ?_, fun sv hm hw => ?_,
    fun sv x hm hw => ?_⟩⟩
  · rw [exec_save_of_granted h]
    refine ⟨fun hm => by rw [State.requestPortSave_faulted hm], fun hm hw => by rw [State.requestPortSave_warned hm hw],
      fun hm => by rw [State.requestPortSave_held hm], fun hm hw => ?_, fun hm hw => ?_, fun sv w hm hw => ?_⟩
    · rw [State.requestPortSave_idle (s := s.grant p) hw hm]
      rfl
    · rw [State.requestPortSave_auditing (s := s.grant p) hw hm]
      rfl
    · refine ⟨joinPending w (PortSet.only p) .ofPort, ?_, causes_joinPending_ofPort w _,
        requesters_joinPending_only w p _⟩
      rw [State.requestPortSave_saving (s := s.grant p) hw hm]
      rfl
  · exact State.requestSave_idle hw hm c
  · exact State.requestSave_auditing hw hm c
  · exact State.requestSave_saving hw hm c
  · rw [State.requestSave_saving hw hm c, joinPending_none]

/-! ## The start of a save (R124, R125) -/

/-- The save that starts on `s`. -/
def State.startedSave (s : State) (who : PortSet) (c : Causes) : Save where
  target := s.saveTarget
  image := imageOf s s.saveGeneration c
  generation := s.saveGeneration
  causes := c
  requesters := who
  note := s.noteMarks
  stage := .erasing
  cancelsOlder := s.saveCancels

theorem State.startSave_eq (s : State) (who : PortSet) (c : Causes) :
    s.startSave who c =
      { s with mode := .saving (s.startedSave who c) none
               imageInfo := s.imageInfo.set s.saveTarget { s.imageInfo.get s.saveTarget with state := .blank } } := rfl

theorem State.mem_noteMarks (s : State) (id : Byte) :
    id ∈ s.noteMarks.ids ↔ ∃ e ∈ s.table, e.id = id ∧ e.unsaved = true := by
  simp only [State.noteMarks, List.mem_map, List.mem_filter, and_assoc]
  exact exists_congr (fun e => and_congr_right (fun _ => and_comm))

/-- Settles O45: target, generation and cancelling are read off the active image, the note off the table. -/
theorem savesStartWithTheirSnapshot : Obligations.SavesStartWithTheirSnapshot := by
  unfold Obligations.SavesStartWithTheirSnapshot
  intro s who c
  refine ⟨s.startedSave who c, s.startSave_eq who c, ?_, ?_, ?_, rfl, rfl, rfl, rfl, rfl, s.mem_noteMarks⟩
  · show s.saveTarget = _
    unfold State.saveTarget
    cases s.activeImage with
    | none => rfl
    | some i => cases i <;> rfl
  · show s.saveGeneration = _
    unfold State.saveGeneration
    cases s.activeImage <;> rfl
  · show s.saveCancels = _
    unfold State.saveCancels
    cases s.activeImage with
    | none => rfl
    | some i => exact beq_eq_decide (α := Word32) _ _

/-! ## The end of a save (R126 to R129) -/

theorem exec_openMarkingWritten {s : State} {sv : Save} {w : Option PendingSave} (hm : s.mode = .saving sv w)
    (hstage : sv.stage = .erasing) :
    exec .openMarkingWritten s = .next
      { s with
        mode := .saving { sv with stage := .marked } w
        array := s.array.set sv.target { s.array.get sv.target with header := .openMarked }
        imageInfo := s.imageInfo.set sv.target { s.imageInfo.get sv.target with state := .invalid } } := by
  show execOpenMarkingWritten s = _
  simp only [execOpenMarkingWritten, hm, hstage]

theorem exec_saveEnd {s : State} {sv : Save} {w : Option PendingSave} (hm : s.mode = .saving sv w) (ok : Bool) :
    exec (.saveEnd ok) s = .next ((if ok = true then s.saveSucceeds sv else s.saveFails sv).afterSave w) := by
  show execSaveEnd ok s = _
  simp only [execSaveEnd, hm]

/-- The marks a success clears are the noted ones. -/
theorem SaveNote.clearMark_eq (n : SaveNote) :
    n.clearMark = fun e => if e.id ∈ n.ids then { e with unsaved := false } else e := by
  funext e
  simp only [SaveNote.clearMark, List.contains_iff_mem]

theorem imageByte_some (i : ImageId) : imageByte (some i) = match i with | .a => (1 : Byte) | .b => 2 := by
  cases i <;> rfl

section
variable {s : State}

/-- While failures are short of three, a pending save runs next. -/
theorem State.afterSave_pending (hf : s.failures < 3) (x : PendingSave) :
    s.afterSave (some x) = s.startSave x.requesters x.causes := by
  simp only [State.afterSave, if_neg (Nat.not_le.mpr hf)]

theorem State.afterSave_held (hf : s.failures < 3) (hw : s.pfwAsserted = true) :
    s.afterSave none = { s with mode := .held } := by
  simp only [State.afterSave, if_neg (Nat.not_le.mpr hf), hw, if_true]

theorem State.afterSave_idle (hf : s.failures < 3) (hw : s.pfwAsserted = false) :
    s.afterSave none = { s with mode := .idle } := by
  simp only [State.afterSave, if_neg (Nat.not_le.mpr hf), hw, Bool.false_eq_true, if_false]

theorem State.afterSave_faulted (hf : 3 ≤ s.failures) : s.afterSave none = { s with mode := .faulted } := by
  simp only [State.afterSave, if_pos hf]

theorem State.afterSave_dropped (hf : 3 ≤ s.failures) (x : PendingSave) :
    s.afterSave (some x) = State.placeAnswers { s with mode := .faulted } x.requesters ⟨.retentionFault, []⟩ := by
  simp only [State.afterSave, if_pos hf]

end

/-- Answers leave the failure count and the pin. -/
theorem State.placeAnswers_unit (s : State) (who : PortSet) (a : Answer) :
    (s.placeAnswers who a).failures = s.failures ∧ (s.placeAnswers who a).pfwAsserted = s.pfwAsserted := by
  rw [s.placeAnswers_ports who a]
  exact ⟨rfl, rfl⟩

theorem State.saveSucceeds_unit (s : State) (sv : Save) :
    (s.saveSucceeds sv).failures = 0 ∧ (s.saveSucceeds sv).pfwAsserted = s.pfwAsserted :=
  State.placeAnswers_unit _ _ _

theorem State.saveFails_pin (s : State) (sv : Save) :
    (s.saveFails sv).failures = s.failures + 1 ∧ (s.saveFails sv).pfwAsserted = s.pfwAsserted :=
  State.placeAnswers_unit _ _ _

/-- The end of a save, read back well: what is written, cleared and answered (R126). -/
theorem State.saveSucceeds_eq (s : State) (sv : Save) :
    let array := s.array.set sv.target sv.image
    let info := s.imageInfo.set sv.target ⟨.valid, sv.generation, sv.causes, sv.image.positions.length⟩
    let older := sv.target.other
    s.saveSucceeds sv = State.placeAnswers
      { s with
        array := if sv.cancelsOlder then array.set older { array.get older with header := .cancelled } else array
        imageInfo := if sv.cancelsOlder then info.set older { info.get older with state := .invalid } else info
        activeImage := some sv.target
        table := s.table.map (fun e => if e.id ∈ sv.note.ids then { e with unsaved := false } else e)
        settingsUnsaved := s.settingsUnsaved && !sv.note.settings
        failures := 0
        sinceSave := some 0
        intervalTimer := s.autosaveInterval.toNat * 60000 }
      sv.requesters ⟨.ok, [match sv.target with | .a => (1 : Byte) | .b => 2] ++ be32 sv.generation⟩ := by
  intro array info older
  rw [← SaveNote.clearMark_eq, ← imageByte_some]
  rfl

/-- Settles O46: the marking, then a success and a failure, each followed by what waits. -/
theorem savesEndInSuccessOrFailure : Obligations.SavesEndInSuccessOrFailure := by
  unfold Obligations.SavesEndInSuccessOrFailure
  refine ⟨⟨fun s sv w hm hstage => exec_openMarkingWritten hm hstage, fun s sv w hm => ?_, State.slot_placeAnswers⟩,
    fun s sv w hm => ?_⟩
  · intro array info older saved
    have hsaved : s.saveSucceeds sv = saved := s.saveSucceeds_eq sv
    obtain ⟨hcount, hpin⟩ := hsaved ▸ s.saveSucceeds_unit sv
    have hf : saved.failures < 3 := hcount ▸ Nat.zero_lt_succ 2
    rw [exec_saveEnd hm, if_pos rfl, hsaved]
    refine ⟨fun x hw => ?_, fun hnone hw => ?_, fun hnone hw => ?_⟩
    · rw [hw, State.afterSave_pending hf]
    · rw [hnone, State.afterSave_held hf (hpin.trans hw)]
    · rw [hnone, State.afterSave_idle hf (hpin.trans hw)]
  · intro failed
    have hfailed : s.saveFails sv = failed := rfl
    obtain ⟨hcount, hpin⟩ := hfailed ▸ s.saveFails_pin sv
    rw [exec_saveEnd hm, if_neg Bool.false_ne_true, hfailed, ← hcount]
    refine ⟨fun x hf hw => ?_, fun hf hnone hw => ?_, fun hf hnone hw => ?_, fun hf hnone => ?_, fun x hf hw => ?_⟩
    · rw [hw, State.afterSave_pending hf]
    · rw [hnone, State.afterSave_held hf (hpin.trans hw)]
    · rw [hnone, State.afterSave_idle hf (hpin.trans hw)]
    · rw [hnone, State.afterSave_faulted hf]
    · rw [hw, State.afterSave_dropped hf]

/-! ## The power-fail warning (R131, R132) -/

section
variable {s : State}

theorem State.powerFails_idle (hm : s.mode = .idle) : s.powerFails = s.startSave .none .ofPowerFail := by
  simp only [State.powerFails, hm]

theorem State.powerFails_auditing (hm : s.mode = .auditing) :
    s.powerFails = (s.abortAudit .abortedBySave).startSave .none .ofPowerFail := by
  simp only [State.powerFails, hm]

theorem State.powerFails_saving {sv : Save} {w : Option PendingSave} (hm : s.mode = .saving sv w) :
    s.powerFails = { s with mode := .saving sv (some (joinPending w .none .ofPowerFail)) } := by
  simp only [State.powerFails, hm]

/-- A unit that starts no saves only sees the level. -/
theorem State.powerFails_kept (hm : s.mode = .loading ∨ s.mode = .held ∨ s.mode = .faulted) : s.powerFails = s := by
  obtain hm | hm | hm := hm <;> simp only [State.powerFails, hm]

end

/-- PFW_N asserted on a part that runs. -/
theorem exec_pfwAssertion {s : State} (hl : s.live = true) (hw : s.pfwAsserted = false) :
    exec .pfwAssertion s = .next (State.powerFails { s with pfwAsserted := true }) := by
  show execPfwAssertion s = _
  rw [execPfwAssertion, hw, hl]
  rfl

/-- PFW_N released: HELD becomes IDLE. -/
theorem exec_pfwRelease {s : State} (hw : s.pfwAsserted = true) :
    exec .pfwRelease s = .next { s with pfwAsserted := false, mode := if s.mode = .held then .idle else s.mode } := by
  show execPfwRelease s = _
  unfold execPfwRelease
  rw [hw]
  cases hm : s.mode <;> rfl

/-- Settles O47: the assertion by the mode it finds, the release by HELD or not. -/
theorem thePowerFailWarningStartsASaveAndHolds : Obligations.ThePowerFailWarningStartsASaveAndHolds := by
  unfold Obligations.ThePowerFailWarningStartsASaveAndHolds
  refine ⟨fun s hl hw => ?_, fun s hw => exec_pfwRelease hw⟩
  intro warned
  have hexec : exec .pfwAssertion s = .next warned.powerFails := exec_pfwAssertion hl hw
  rw [hexec]
  refine ⟨fun hm => ?_, fun hm => ?_, fun sv hm => ?_, fun sv x hm => ?_, fun hm => ?_⟩
  · rw [State.powerFails_idle (s := warned) hm]
  · rw [State.powerFails_auditing (s := warned) hm]
    rfl
  · rw [State.powerFails_saving (s := warned) hm]
    rfl
  · rw [State.powerFails_saving (s := warned) hm, joinPending_none, Causes.union_ofPowerFail]
  · rw [State.powerFails_kept (s := warned) hm]

end Sys2Proof.Machine
end

section
/-! PROOFS. The images under a sweep and under a cut (O49, O54): the positions of a segment, what a position counts as, which
image a load takes, and what an abandoned save leaves. -/

namespace Sys2Proof.Machine

/-! ## The segments of a sweep (R141 to R144) -/

/-- Six places from the `6k`-th, by their indices. -/
theorem take_drop_range (count k : Nat) :
    ((List.range count).drop (6 * k)).take 6 =
      (List.range count).filter (fun n => decide (6 * k ≤ n) && decide (n ≤ 6 * k + 5)) := by
  induction count with
  | zero => simp
  | succ c ih =>
    rw [List.range_succ, List.drop_append, List.take_append, List.filter_append, ih, List.length_drop, List.length_range]
    congr 1
    by_cases hlow : 6 * k ≤ c
    · rw [Nat.sub_eq_zero_of_le hlow, List.drop_zero]
      by_cases hhigh : c ≤ 6 * k + 5
      · rw [List.take_of_length_le (by simp only [List.length_singleton]; omega)]
        simp [hlow, hhigh]
      · rw [show 6 - (c - 6 * k) = 0 by omega, List.take_zero]
        simp [hhigh]
    · rw [List.drop_of_length_le (by simp only [List.length_singleton]; omega)]
      simp [hlow]

theorem Image.segment_eq (x : Image) (count k : Nat) :
    x.segment count k = ((List.range count).filter (fun n => decide (6 * k ≤ n) && decide (n ≤ 6 * k + 5))).map
      (fun n => x.positions[n]?) := by
  rw [← take_drop_range, List.map_take, List.map_drop]
  rfl

theorem countFresh_eq (t : List Entry) (kept : List Byte) :
    countFresh t kept = (t.filter (fun e => decide (e.id ∉ kept))).length := by
  simp only [countFresh, List.contains_eq_mem, decide_not]

theorem sameDefinition_iff (r : EntryRecord) (e : Entry) :
    sameDefinition r e = true ↔
      (r.kind, r.cls, r.reporters, r.trip, r.step, r.allowance, r.window, r.settle) =
        ((recordOf e).kind, (recordOf e).cls, (recordOf e).reporters, (recordOf e).trip, (recordOf e).step,
          (recordOf e).allowance, (recordOf e).window, (recordOf e).settle) := by
  simp only [sameDefinition, Bool.and_eq_true, beq_iff_eq, Prod.mk.injEq, and_assoc]

section
variable {t : List Entry} {a : Audit} {r : EntryRecord}

theorem Audit.judgePosition_damaged (h : stands a.lastKept (some r) = false) :
    Audit.judgePosition t a (some r) = { a with damaged := a.damaged + 1 } := by
  simp only [Audit.judgePosition, h, Bool.false_eq_true, if_false]

theorem Audit.judgePosition_missing (h : stands a.lastKept (some r) = true) (ht : findEntry r.id t = none) :
    Audit.judgePosition t a (some r) =
      { a with lastKept := r.id, kept := a.kept ++ [r.id], missing := a.missing + 1 } := by
  simp only [Audit.judgePosition, h, ht, if_true]

theorem Audit.judgePosition_present {e : Entry} (h : stands a.lastKept (some r) = true)
    (ht : findEntry r.id t = some e) :
    Audit.judgePosition t a (some r) =
      if sameDefinition r e then { a with lastKept := r.id, kept := a.kept ++ [r.id], matched := a.matched + 1 }
      else { a with lastKept := r.id, kept := a.kept ++ [r.id], differs := a.differs + 1 } := by
  simp only [Audit.judgePosition, h, ht, if_true]

end

section
variable {s : State}

/-- The end of a segment: its positions judged one after another, the pointer moved on. -/
theorem State.endSegment_eq (s : State) :
    let judged := (s.auditedPositions s.audit.pointer).foldl (Audit.judgePosition s.table) s.audit
    s.endSegment = if s.audit.pointer < 7 then { judged with pointer := s.audit.pointer + 1 }
      else { judged with status := .allDone, pointer := s.audit.pointer + 1,
                          fresh := countFresh s.table judged.kept } := rfl

theorem exec_auditSegmentEnd_inner (hm : s.mode = .auditing) (hp : s.audit.pointer < 7) (faults : List ArrayFault) :
    exec (.auditSegmentEnd faults) s = .next
      { s with array := failArray s.array faults
               audit := State.endSegment { s with array := failArray s.array faults } } := by
  show execAuditSegmentEnd faults s = _
  simp only [execAuditSegmentEnd, hm, hp, if_true]

/-- The last segment ends the sweep, and damage asks for a REPAIR save. -/
theorem exec_auditSegmentEnd_last (hm : s.mode = .auditing) (hp : ¬ s.audit.pointer < 7) (faults : List ArrayFault) :
    let ended : State := { s with array := failArray s.array faults, mode := .idle
                                  audit := State.endSegment { s with array := failArray s.array faults } }
    exec (.auditSegmentEnd faults) s =
      .next (if 0 < ended.audit.damaged then ended.requestSave .ofRepair else ended) := by
  show execAuditSegmentEnd faults s = _
  simp only [execAuditSegmentEnd, hm, hp, if_false]

end

/-- Settles O49: a segment is six places of the image's order, and a position is judged by the case it falls in. -/
theorem segmentsJudgeEachPositionOnce : Obligations.SegmentsJudgeEachPositionOnce := by
  unfold Obligations.SegmentsJudgeEachPositionOnce
  refine ⟨fun s faults i hm hi => ?_, fun t a r => ⟨Audit.judgePosition_damaged, Audit.judgePosition_missing,
    fun e h ht => ⟨fun heq => ?_, fun hne => ?_⟩⟩, fun t a last => ⟨rfl, rfl, stands_iff last⟩⟩
  · intro array count positions judged done
    have hpositions : State.auditedPositions { s with array := array } s.audit.pointer = positions := by
      simp only [State.auditedPositions, hi]
      exact Image.segment_eq _ _ _
    have hend : State.endSegment { s with array := array } =
        if s.audit.pointer < 7 then { judged with pointer := s.audit.pointer + 1 }
        else { judged with status := .allDone, pointer := s.audit.pointer + 1
                           fresh := countFresh s.table judged.kept } := by
      rw [State.endSegment_eq, hpositions]
    refine ⟨fun hp => ?_, fun hp hd => ?_, fun hp hd => ?_⟩
    · rw [exec_auditSegmentEnd_inner hm hp, hend, if_pos hp]
    all_goals
      have hlast : ¬ s.audit.pointer < 7 := Nat.not_lt.mpr (Nat.le_of_eq hp.symm)
      rw [exec_auditSegmentEnd_last hm hlast, hend, if_neg hlast, countFresh_eq]
    · exact congrArg Host.Outcome.next (if_neg (Nat.not_lt.mpr (Nat.le_of_eq hd)))
    · exact congrArg Host.Outcome.next (if_pos (Nat.pos_of_ne_zero hd))
  · rw [Audit.judgePosition_present h ht, if_pos ((sameDefinition_iff r e).mpr heq)]
  · rw [Audit.judgePosition_present h ht, if_neg (mt (sameDefinition_iff r e).mp hne)]

/-! ## Which image a load takes (R116) -/

/-- B is taken over A when its generation is above, 1 being above the largest. -/
theorem generationAbove_iff (x y : Word32) :
    generationAbove x y = true ↔
      (x = 1 ∧ y = 0xFFFFFFFF) ∨ (¬ (x = 0xFFFFFFFF ∧ y = 1) ∧ y.toNat < x.toNat) := by
  simp only [generationAbove, Config.lastGeneration, Bool.and_eq_true, beq_iff_eq]
  split
  · next h => simp [h]
  · next h =>
    split
    · next h' => simp [h']
    · next h' => simp only [decide_eq_true_eq, h, h', not_false_eq_true, true_and, false_or]

theorem chooseActive_both {info : PerImage ImageInfo} (ha : info.a.state = .valid) (hb : info.b.state = .valid) :
    chooseActive info = if generationAbove info.b.generation info.a.generation then some .b else some .a := by
  simp only [chooseActive, ha, hb, beq_self_eq_true]

/-- The choice between two VALID images, in the order of the manual. -/
theorem generationAbove_choice (a b : Word32) :
    (if generationAbove b a = true then some ImageId.b else some .a) =
      if a = b then some .a
      else if a = 1 ∧ b = 0xFFFFFFFF then some .a
      else if b = 1 ∧ a = 0xFFFFFFFF then some .b
      else if a.toNat < b.toNat then some .b else some .a := by
  by_cases hab : a = b
  · subst hab
    refine (if_neg (fun habove => ?_)).trans (if_pos rfl).symm
    obtain ⟨hone, hlast⟩ | ⟨-, hlt⟩ := (generationAbove_iff a a).mp habove
    · exact absurd (hone.symm.trans hlast) (by decide)
    · exact lt_irrefl _ hlt
  · by_cases hfirst : a = 1 ∧ b = 0xFFFFFFFF
    · obtain ⟨rfl, rfl⟩ := hfirst
      decide
    · by_cases hwrap : b = 1 ∧ a = 0xFFFFFFFF
      · obtain ⟨rfl, rfl⟩ := hwrap
        decide
      · have habove : generationAbove b a = true ↔ a.toNat < b.toNat := by
          rw [generationAbove_iff]
          exact ⟨fun h => h.elim (fun h => absurd h hwrap) And.right,
            fun h => .inr ⟨fun hlast => hfirst hlast.symm, h⟩⟩
        simp only [if_neg hab, if_neg hfirst, if_neg hwrap, habove]

/-! ## What an abandoned save leaves (R130) -/

theorem State.cutSave_saving {s : State} {sv : Save} {w : Option PendingSave} (hm : s.mode = .saving sv w)
    (cut : CutPoint) : s.cutSave cut = sv.cutAt cut s.array := by
  simp only [State.cutSave, hm]

section
variable {sv : Save} {x : PerImage Image}

/-- Before the open marking the erase alone can have touched the image. -/
theorem Save.cutAt_erasing (h : sv.stage = .erasing) :
    (sv.cutAt .beforeErase x).get sv.target = x.get sv.target ∧
    ((sv.cutAt .erasingHeader x).get sv.target).header = .inPart ∧
    ((sv.cutAt .headerErased x).get sv.target).header = .erased := by
  simp [Save.cutAt, h]

theorem Save.cutAt_marked_writing (h : sv.stage = .marked) :
    ((sv.cutAt .writing x).get sv.target).header = .openMarked := by
  simp [Save.cutAt, h]

theorem Save.cutAt_checkWritten (h : sv.stage = .marked) (hc : sv.cancelsOlder = true) (older : CancelPoint) :
    (sv.cutAt (.checkWritten older) x).get sv.target = sv.image := by
  cases older <;> simp [Save.cutAt, h, hc, (other_ne sv.target).symm]

/-- A save that cancels nothing leaves the other image. -/
theorem Save.cutAt_other (hc : sv.cancelsOlder = false) (cut : CutPoint) :
    (sv.cutAt cut x).get sv.target.other = x.get sv.target.other := by
  cases hs : sv.stage <;> cases cut <;> simp [Save.cutAt, hs, hc]

end

/-! ## Judging an image (R115) -/

section
variable {i : Image}

theorem Image.judge_written {h : HeaderRecord} (hi : i.header = .written h) :
    i.judge = if h.marker = Config.formatMarker ∧ h.count.toNat ≤ 48 ∧
        sum16 (h.words ++ i.settings.words ++ [h.check]) = 0xFFFF then .valid else .invalid := by
  simp only [Image.judge, hi, headerCheckOk, Bool.and_eq_true, beq_iff_eq, decide_eq_true_eq, and_assoc]
  rfl

theorem Image.judge_erased (hi : i.header = .erased) : i.judge = .blank := by simp only [Image.judge, hi]

/-- A header that is begun, marked open or cancelled makes the image INVALID. -/
theorem Image.judge_unwritten (hi : i.header = .inPart ∨ i.header = .openMarked ∨ i.header = .cancelled) :
    i.judge = .invalid := by
  obtain hi | hi | hi := hi <;> simp only [Image.judge, hi]

theorem Image.judge_blank_iff : i.judge = .blank ↔ i.header = .erased := by
  refine ⟨fun hj => ?_, Image.judge_erased⟩
  cases hi : i.header with
  | erased => rfl
  | written h => rw [Image.judge_written hi] at hj; split at hj <;> cases hj
  | inPart => rw [Image.judge_unwritten (.inl hi)] at hj; cases hj
  | openMarked => rw [Image.judge_unwritten (.inr (.inl hi))] at hj; cases hj
  | cancelled => rw [Image.judge_unwritten (.inr (.inr hi))] at hj; cases hj

theorem Image.judge_valid_iff :
    i.judge = .valid ↔ ∃ h : HeaderRecord, i.header = .written h ∧ h.marker = Config.formatMarker ∧
      h.count.toNat ≤ 48 ∧ sum16 (h.words ++ i.settings.words ++ [h.check]) = 0xFFFF := by
  constructor
  · intro hj
    cases hi : i.header with
    | written h =>
      rw [Image.judge_written hi] at hj
      split at hj
      · next hgood => exact ⟨h, rfl, hgood⟩
      · cases hj
    | erased => rw [Image.judge_erased hi] at hj; cases hj
    | inPart => rw [Image.judge_unwritten (.inl hi)] at hj; cases hj
    | openMarked => rw [Image.judge_unwritten (.inr (.inl hi))] at hj; cases hj
    | cancelled => rw [Image.judge_unwritten (.inr (.inr hi))] at hj; cases hj
  · rintro ⟨h, hi, hgood⟩
    rw [Image.judge_written hi, if_pos hgood]

theorem ImageState.invalid_iff (x : ImageState) : x = .invalid ↔ x ≠ .blank ∧ x ≠ .valid := by cases x <;> decide

theorem Image.info_state (i : Image) : i.info.state = i.judge := by
  unfold Image.info
  cases i.header <;> rfl

theorem Image.info_written {h : HeaderRecord} (hi : i.header = .written h) :
    i.info = ⟨i.judge, h.generation, h.causes, h.count.toNat⟩ := by
  simp only [Image.info, hi]

end

/-- Settles O54: the choice between the images, the points of a cut, and the judgement of a header. -/
theorem cutSavesLeaveALoadableImage : Obligations.CutSavesLeaveALoadableImage := by
  unfold Obligations.CutSavesLeaveALoadableImage
  refine ⟨fun info => ⟨fun ha hb => ?_, fun ha hb => ?_, fun ha hb => ?_, fun ha hb => ?_⟩, fun s sv w hm => ?_,
    fun i => ⟨Image.judge_blank_iff, Image.judge_valid_iff, ImageState.invalid_iff i.judge⟩,
    fun i => ⟨i.info_state, fun h hi => Image.info_written hi⟩⟩
  · exact (chooseActive_both ha hb).trans (generationAbove_choice _ _)
  · simp only [chooseActive, ha, beq_false_of_ne hb, beq_self_eq_true]
  · simp only [chooseActive, beq_false_of_ne ha, hb, beq_self_eq_true]
  · simp only [chooseActive, beq_false_of_ne ha, beq_false_of_ne hb]
  · simp only [State.cutSave_saving hm]
    refine ⟨fun hstage => ?_, fun hstage => ?_, fun hc cut => Save.cutAt_other hc cut,
      fun hstage hc older => Save.cutAt_checkWritten hstage hc older⟩
    · obtain ⟨hbefore, herasing, herased⟩ := Save.cutAt_erasing (x := s.array) hstage
      exact ⟨hbefore, Image.judge_unwritten (.inl herasing), Image.judge_erased herased⟩
    · exact Image.judge_unwritten (.inr (.inl (Save.cutAt_marked_writing hstage)))

end Sys2Proof.Machine
end

section
/-! PROOFS. What is written of the table and the retention unit, and read back: a saved image loaded again (O13) and the
fixed record of READ_RETENTION (O19). -/

namespace Sys2Proof.Machine

/-! ## Check words and bytes (R114) -/

theorem sum16_append (xs ys : List Word16) : sum16 (xs ++ ys) = sum16 xs + sum16 ys := by
  induction xs with
  | nil => exact (BitVec.zero_add _).symm
  | cons x xs ih => rw [List.cons_append, sum16, sum16, ih, BitVec.add_assoc]

/-- The check word makes the sum FFFFh. -/
theorem sum16_checkWord (xs : List Word16) : sum16 (xs ++ [checkWord xs]) = 0xFFFF := by
  rw [sum16_append]
  show sum16 xs + (0xFFFF#16 - sum16 xs + 0#16) = 0xFFFF#16
  rw [BitVec.add_zero, BitVec.add_comm, BitVec.sub_add_cancel]

theorem toNat_byteOf {n : Nat} (h : n ≤ 255) : (byteOf n).toNat = n :=
  (BitVec.toNat_ofNat n 8).trans (Nat.mod_eq_of_lt (Nat.lt_succ_of_le h))

theorem toNat_flagByte (b : Bool) : (flagByte b).toNat ≤ 1 := by cases b <;> decide

/-- A reporter set as its byte, and read back (R167). -/
theorem setByte_spec (x : PortSet) : (setByte x).toNat ≤ 7 ∧ setOfByte (setByte x) = x := by
  obtain ⟨a, b, c⟩ := x
  cases a <;> cases b <;> cases c <;> decide

theorem Class.toByte_spec (c : Class) :
    (c.toByte = 1 ∨ c.toByte = 2) ∧ (if c.toByte == 2 then Class.urgent else .service) = c := by
  cases c <;> decide

/-! ## The record of an entry (R114, R117) -/

/-- What a record holds of every kind alike. -/
theorem recordOf_fields (e : Entry) :
    (recordOf e).id = e.id ∧ (recordOf e).kind = e.kind.toByte ∧ (recordOf e).cls = e.cls.toByte ∧
    (recordOf e).reporters = setByte e.reporters ∧ (recordOf e).trip = byteOf e.trip ∧ (recordOf e).step = e.step ∧
    (recordOf e).grade = byteOf e.grade ∧ (recordOf e).lowMark = byteOf e.lowMark ∧
    (recordOf e).everTripped = flagByte e.everTripped := by
  unfold recordOf
  cases e.kind <;> exact ⟨rfl, rfl, rfl, rfl, rfl, rfl, rfl, rfl, rfl⟩

/-- The check code of a record is not among its words. -/
theorem EntryRecord.words_check (r : EntryRecord) (c : Word16) :
    ({ r with check := c } : EntryRecord).words = r.words := rfl

theorem HeaderRecord.words_mk (marker : Word16) (g : Word32) (count : Byte) (c : Causes) (check : Word16) :
    (HeaderRecord.mk marker g count c check).words = [marker] ++ halves g ++ [wide count, wide c.toByte] := rfl

theorem recordOf_check (e : Entry) : sum16 ((recordOf e).words ++ [(recordOf e).check]) = 0xFFFF := by
  unfold recordOf
  dsimp only
  rw [EntryRecord.words_check]
  exact sum16_checkWord _

/-- What a record holds of its kind part, and 0 for the fields its kind lacks. -/
theorem recordOf_kind (e : Entry) :
    match e.kind with
    | .count total =>
      (recordOf e).total = total ∧ (recordOf e).allowance = 0 ∧ (recordOf e).window = 0 ∧ (recordOf e).settle = 0 ∧
      (recordOf e).lastPresent = 0 ∧ (recordOf e).lastSample = 0 ∧ (recordOf e).windowsSeen = 0 ∧
      (recordOf e).readingPresent = 0 ∧ (recordOf e).reading = 0
    | .rate a w n total _ last seen =>
      (recordOf e).allowance = a ∧ (recordOf e).window = byteOf w ∧ (recordOf e).settle = byteOf n ∧
      (recordOf e).total = total ∧ (recordOf e).lastPresent = flagByte last.isSome ∧
      (recordOf e).lastSample = last.getD 0 ∧ (recordOf e).windowsSeen = byteOf seen ∧
      (recordOf e).readingPresent = 0 ∧ (recordOf e).reading = 0
    | .level a reading =>
      (recordOf e).allowance = a ∧ (recordOf e).window = 0 ∧ (recordOf e).settle = 0 ∧ (recordOf e).total = 0 ∧
      (recordOf e).lastPresent = 0 ∧ (recordOf e).lastSample = 0 ∧ (recordOf e).windowsSeen = 0 ∧
      (recordOf e).readingPresent = flagByte reading.isSome ∧ (recordOf e).reading = reading.getD 0 := by
  unfold recordOf
  cases e.kind <;> exact ⟨rfl, rfl, rfl, rfl, rfl, rfl, rfl, rfl, rfl⟩

theorem Entry.Ok.trip_le {e : Entry} (h : e.Ok) : e.trip ≤ 255 := by
  obtain ⟨-, htrip, -⟩ := e.ok_iff.mp h
  omega

/-- Grade and low mark fit in a byte. -/
theorem Entry.Ok.grade_le {e : Entry} (h : e.Ok) : e.grade ≤ 255 ∧ e.lowMark ≤ 255 := by
  obtain ⟨-, -, -, ⟨-, hlg, -⟩, hkind⟩ := e.ok_iff.mp h
  have hgrade : e.grade ≤ 250 := by
    cases hk : e.kind <;> rw [hk] at hkind
    · exact Nat.le_trans hkind (by decide)
    · exact hkind.1
    · exact Nat.le_trans hkind (by decide)
  omega

/-- The record of an entry within its bounds stands after every lower id. -/
theorem recordOf_stands {e : Entry} (h : e.Ok) {last : Byte} (hlast : last.toNat < e.id.toNat) :
    (recordOf e).StandsAfter last := by
  obtain ⟨hid, hkind, hcls, hrep, htrip, hstep, hgrade, hlow, hever⟩ := recordOf_fields e
  obtain ⟨⟨hid1, hid2⟩, htripOk, hstepOk, ⟨hlow1, hlg, hlow2⟩, hallows⟩ := e.ok_iff.mp h
  obtain ⟨hgradeByte, hlowByte⟩ := h.grade_le
  have hgradeNat := toNat_byteOf hgradeByte
  have hlowNat := toNat_byteOf hlowByte
  have hfields := recordOf_kind e
  unfold EntryRecord.StandsAfter
  rw [hid, hkind, hcls, hrep, htrip, hstep, hgrade, hlow, hever, hgradeNat, hlowNat, toNat_byteOf h.trip_le]
  refine ⟨recordOf_check e, hid1, hid2, hlast, e.cls.toByte_spec.1, (setByte_spec e.reporters).1,
    htripOk.imp_right (fun h => by rw [h]; rfl), hstepOk, toNat_flagByte _, hlow1, hlg, hlow2, ?_⟩
  cases hk : e.kind with
  | count total =>
    rw [hk] at hallows hfields
    obtain ⟨-, hzeros⟩ := hfields
    exact .inl ⟨rfl, hallows, hzeros⟩
  | rate a w n total tally sample seen =>
    rw [hk] at hallows hfields
    obtain ⟨-, hwindow, hsettle, -, hpresent, -, hseen, hreading⟩ := hfields
    obtain ⟨hgrade', hsettle', hseen', hunsettled⟩ := hallows
    have hsettleNat := toNat_byteOf (Nat.le_trans hsettle' (by decide))
    have hseenNat := toNat_byteOf hseen'
    have hwindowNat : (byteOf w).toNat = w := toNat_byteOf (by omega)
    refine .inr (.inl ⟨rfl, hgrade', fun hlt => ?_, ?_, ?_, hpresent ▸ toNat_flagByte _, hreading⟩)
    · rw [hseen, hsettle, hsettleNat, hseenNat] at hlt
      rw [hunsettled hlt]
      rfl
    · rw [hwindow, hwindowNat]
      omega
    · rw [hsettle, hsettleNat]
      exact hsettle'
  | level a reading =>
    rw [hk] at hallows hfields
    obtain ⟨-, hwindow, hsettle, htotal, hpresent, hsample, hseen, hreading, -⟩ := hfields
    exact .inr (.inr ⟨rfl, hallows, hwindow, hsettle, htotal, hpresent, hsample, hseen, hreading ▸ toNat_flagByte _⟩)

/-- A field that may be absent is read back from its presence byte and its value. -/
theorem presence_getD {α : Type} [Zero α] (x : Option α) :
    (if flagByte x.isSome == 1 then some (x.getD 0) else none) = x := by
  cases x <;> rfl

/-- An entry read back from its record: its tally is 0 and it holds no unsaved mark (R117). -/
theorem entryOf_recordOf {e : Entry} (h : e.Ok) : entryOf (recordOf e) = { e.zeroTally with unsaved := false } := by
  obtain ⟨hid, hkind, hcls, hrep, htrip, hstep, hgrade, hlow, hever⟩ := recordOf_fields e
  obtain ⟨hgradeByte, hlowByte⟩ := h.grade_le
  obtain ⟨-, -, -, -, hallows⟩ := e.ok_iff.mp h
  have hfields := recordOf_kind e
  have htripped : (flagByte e.everTripped == 1) = e.everTripped := by cases e.everTripped <;> rfl
  unfold entryOf
  rw [hid, hkind, hcls, hrep, htrip, hstep, hgrade, hlow, hever, e.cls.toByte_spec.2, (setByte_spec e.reporters).2,
    toNat_byteOf h.trip_le, toNat_byteOf hgradeByte, toNat_byteOf hlowByte, htripped]
  obtain ⟨id, cls, reporters, trip, step, grade, lowMark, everTripped, unsaved, kind⟩ := e
  cases kind with
  | count total =>
    obtain ⟨htotal, -⟩ := hfields
    rw [htotal]
    rfl
  | rate a w n total tally sample seen =>
    obtain ⟨hallowance, hwindow, hsettle, htotal, hpresent, hsample, hseen, -⟩ := hfields
    obtain ⟨-, hsettle', hseen', -⟩ := hallows
    rw [hallowance, hwindow, hsettle, htotal, hpresent, hsample, hseen, presence_getD,
      toNat_byteOf (Nat.le_trans hsettle' (by decide)), toNat_byteOf hseen', toNat_byteOf (n := w) (by omega),
      Fin.ofNat_val_eq_self]
    rfl
  | level a reading =>
    obtain ⟨hallowance, -, -, -, -, -, -, hpresent, hreading⟩ := hfields
    rw [hallowance, hpresent, hreading, presence_getD]
    rfl

/-! ## The table of a saved image (R114, R115, R117) -/

theorem map_getElem?_range {α : Type} (l : List α) : (List.range l.length).map (fun i => l[i]?) = l.map some :=
  List.ext_getElem (by simp) (by simp)

/-- The positions of a saved image are the records of the table. -/
theorem imageOf_used (s : State) (g : Word32) (c : Causes) :
    (imageOf s g c).used s.table.length = (s.table.map recordOf).map some := by
  rw [← map_getElem?_range, List.length_map]
  rfl

/-- A load keeps every record of a table in order. -/
theorem loadEntries_recordOf {t : List Entry} (hok : ∀ e ∈ t, e.Ok) (last : Byte) (hasc : ascending t)
    (hlast : ∀ e ∈ t, last.toNat < e.id.toNat) :
    loadEntries last ((t.map recordOf).map some) = t.map (fun e => { e.zeroTally with unsaved := false }) := by
  induction t generalizing last with
  | nil => rfl
  | cons e t ih =>
    obtain ⟨habove, htail⟩ := List.pairwise_cons.mp ((ascending_iff _).mp hasc)
    obtain ⟨he, ht⟩ := List.forall_mem_cons.mp hok
    obtain ⟨hid, -⟩ := recordOf_fields e
    have hrest := ih ht e.id ((ascending_iff t).mpr htail) habove
    rw [List.map_cons, List.map_cons, List.map_cons,
      loadEntries_stands (recordOf_stands he (List.forall_mem_cons.mp hlast).1),
      entryOf_recordOf he, hid, hrest]

/-- The header a save writes: its check word is right and its count is the table's length. -/
theorem imageOf_header (s : State) (g : Word32) (c : Causes) :
    ∃ h : HeaderRecord, (imageOf s g c).header = .written h ∧ h.marker = Config.formatMarker ∧ h.generation = g ∧
      h.causes = c ∧ h.count = byteOf s.table.length ∧
      sum16 (h.words ++ (imageOf s g c).settings.words ++ [h.check]) = 0xFFFF := by
  refine ⟨_, rfl, rfl, rfl, rfl, rfl, ?_⟩
  simp only [imageOf, HeaderRecord.words_mk]
  exact sum16_checkWord _

/-- Settles O13: each record stands after the one before it and gives its entry back. -/
theorem saveThenLoadRestoresTheTable : Obligations.SaveThenLoadRestoresTheTable := by
  unfold Obligations.SaveThenLoadRestoresTheTable
  intro s g c hinv
  obtain ⟨⟨hlen, hasc, hok⟩, -⟩ := s.tableInv_iff.mp hinv
  obtain ⟨h, hwritten, hmarker, hgeneration, hcauses, hbyte, hcheck⟩ := imageOf_header s g c
  have hcount : h.count.toNat = s.table.length := by rw [hbyte, toNat_byteOf (Nat.le_trans hlen (by decide))]
  have hjudge : (imageOf s g c).judge = .valid :=
    Image.judge_valid_iff.mpr ⟨h, hwritten, hmarker, hcount ▸ hlen, hcheck⟩
  have hload : loadEntries 0 ((imageOf s g c).used s.table.length) =
      s.table.map (fun e => { e.zeroTally with unsaved := false }) := by
    rw [imageOf_used]
    refine loadEntries_recordOf hok 0 hasc (fun e he => ?_)
    obtain ⟨⟨hid, -⟩, -⟩ := e.ok_iff.mp (hok e he)
    exact hid
  refine ⟨hjudge, ?_, ?_, hload⟩
  · rw [Image.info_written hwritten, hjudge, hgeneration, hcauses, hcount]
  · rw [droppedEntries, hload, imageOf_used, List.length_map, List.length_map, List.length_map, Nat.sub_self]

/-! ## READ_RETENTION (R137, R172) -/

/-- The generation of an image is shown while it is VALID. -/
theorem presenceBit_shownGeneration (x : ImageInfo) (weight : Byte) :
    presenceBit x.shownGeneration weight = if x.state = .valid then weight else 0 := by
  unfold ImageInfo.shownGeneration
  cases x.state <;> rfl

theorem shownGeneration_getD (x : ImageInfo) :
    x.shownGeneration.getD 0 = if x.state = .valid then x.generation else 0 := by
  unfold ImageInfo.shownGeneration
  cases x.state <;> rfl

/-- The interval time is shown while there is an interval. -/
theorem presenceBit_intervalLeft (s : State) (weight : Byte) :
    presenceBit s.intervalLeft weight = if s.autosaveInterval = 0 then 0 else weight := by
  unfold State.intervalLeft
  split <;> rfl

theorem intervalLeft_getD (s : State) :
    s.intervalLeft.getD 0 = if s.autosaveInterval = 0 then 0 else BitVec.ofNat 32 (s.intervalTimer / 1000) := by
  unfold State.intervalLeft
  split <;> rfl

theorem State.pendingSave_eq (s : State) : s.pendingSave = match s.mode with | .saving _ w => w | _ => none := by
  unfold State.pendingSave
  cases s.mode <;> rfl

theorem imageByte_eq (x : Option ImageId) :
    imageByte x = match x with | none => 0 | some .a => 1 | some .b => 2 := by
  match x with
  | none => rfl
  | some .a => rfl
  | some .b => rfl

/-- The causes of the active image as their byte. -/
theorem State.activeCauses_toByte (s : State) : s.activeCauses.toByte =
    match s.activeImage with
    | none => 0
    | some .a => s.imageInfo.a.causes.toByte
    | some .b => s.imageInfo.b.causes.toByte := by
  unfold State.activeCauses
  match s.activeImage with
  | none => rfl
  | some .a => rfl
  | some .b => rfl

/-- Bits of a save cause set (10.3). -/
theorem Causes.toByte_bits (c : Causes) :
    c.toByte.toNat < 32 ∧ c.toByte.getLsbD 0 = c.port ∧ c.toByte.getLsbD 1 = c.worsen ∧
      c.toByte.getLsbD 2 = c.interval ∧ c.toByte.getLsbD 3 = c.powerFail ∧ c.toByte.getLsbD 4 = c.repair := by
  obtain ⟨port, worsen, interval, powerFail, repair⟩ := c
  revert port worsen interval powerFail repair
  decide

theorem exec_readRetention {s : State} {p : Port} (h : s.Granted p 0x62 []) :
    exec (.readRetention p) s = .next (s.answered p (readRetentionAnswer s)) :=
  congrArg Host.Outcome.next
    (exec_read (answer := fun u (_ : Unit) => readRetentionAnswer u) (ident := noIdent) (parse := parseNone) h rfl rfl)

/-- Settles O19: the record field by field, then the codes. -/
theorem readRetentionAnswersTheFixedRecord : Obligations.ReadRetentionAnswersTheFixedRecord := by
  unfold Obligations.ReadRetentionAnswersTheFixedRecord
  refine ⟨fun s p h => ?_, rfl, fun _ _ => rfl, Causes.toByte_bits, by decide⟩
  intro a b waiting left
  refine ⟨(readRetentionAnswer s).result, rfl, exec_readRetention h, ?_⟩
  have hwaiting : s.pendingSave = waiting := s.pendingSave_eq
  unfold readRetentionAnswer
  simp only [presenceBit_shownGeneration, shownGeneration_getD, presenceBit_intervalLeft, intervalLeft_getD, hwaiting,
    imageByte_eq, s.activeCauses_toByte]
  rfl

end Sys2Proof.Machine
end

section
/-! PROOFS. The audit sweep from its request to its end (O10, O20, O48): how AUDIT is judged, what READ_AUDIT answers,
and what every step keeps of the sweep. -/

namespace Sys2Proof.Machine

/-! ## AUDIT (R139, R140) -/

/-- A RESUME finds an aborted sweep. -/
theorem AuditStatus.resumable_iff (x : AuditStatus) :
    x.resumable = true ↔ x = .abortedBySave ∨ x = .abortedByChange := by
  cases x <;> simp [AuditStatus.resumable]

section
variable {s : State} {p : Port}

theorem State.Granted.exec_audit {mode : Byte} {resume : Bool} (h : s.Granted p 0x63 [mode])
    (hmode : parseAuditMode [mode] = some resume) :
    exec (.audit p) s = .next ((applyAudit resume s).1.answered p (applyAudit resume s).2) := by
  have hrequest : commandRequest (.audit p) [mode] s = applyAudit resume s :=
    s.direct_ok (fun _ => s.auditIdent) parseAuditMode applyAudit hmode
  rw [h.exec_eq rfl (by decide), hrequest]

theorem applyAudit_faulted (hm : s.mode = .faulted) (resume : Bool) :
    applyAudit resume s = (s, refuse .retentionFault s.auditIdent) := by
  simp only [applyAudit, hm]

theorem applyAudit_held (hm : s.mode = .held) (resume : Bool) :
    applyAudit resume s = (s, refuse .held s.auditIdent) := by
  simp only [applyAudit, hm]

theorem applyAudit_busy (hm : s.mode = .auditing ∨ ∃ sv w, s.mode = .saving sv w) (resume : Bool) :
    applyAudit resume s = (s, refuse .busy s.auditIdent) := by
  obtain hm | ⟨sv, w, hm⟩ := hm <;> simp only [applyAudit, hm]

theorem applyAudit_noImage (hm : s.mode = .idle) (hi : s.activeImage = none) (resume : Bool) :
    applyAudit resume s = (s, refuse .noImage s.auditIdent) := by
  simp only [applyAudit, hm, hi, Option.isNone_none, if_true]

theorem applyAudit_badState (hm : s.mode = .idle) (hi : s.activeImage ≠ none)
    (ha : ¬ (s.audit.status = .abortedBySave ∨ s.audit.status = .abortedByChange)) :
    applyAudit true s = (s, refuse .badState s.auditIdent) := by
  have hr : s.audit.status.resumable = false := Bool.eq_false_iff.mpr (mt s.audit.status.resumable_iff.mp ha)
  simp [applyAudit, hm, hi, hr]

/-- START is accepted on any sweep, RESUME on an aborted one. -/
theorem applyAudit_accepted {resume : Bool} (hm : s.mode = .idle) (hi : s.activeImage ≠ none)
    (ha : resume = true → s.audit.status = .abortedBySave ∨ s.audit.status = .abortedByChange) :
    applyAudit resume s = ({ s with mode := .auditing, audit := s.audit.accept resume },
      ⟨.ok, [if resume then 2 else 1, byteOf (s.audit.accept resume).pointer]⟩) := by
  have hr : ¬ (resume && !s.audit.status.resumable) = true := by
    simpa using fun h => s.audit.status.resumable_iff.mpr (ha h)
  simp only [applyAudit, hm, Option.isNone_iff_eq_none, if_neg hi, if_neg hr]

end

/-- Settles O48: the refusals in their order, then the two modes that are accepted. -/
theorem auditIsAcceptedOrRefusedInOrder : Obligations.AuditIsAcceptedOrRefusedInOrder := by
  unfold Obligations.AuditIsAcceptedOrRefusedInOrder
  refine ⟨fun s p mode h hmode => ?_, rfl⟩
  intro refused aborted
  obtain ⟨resume, hparse⟩ : ∃ resume, parseAuditMode [mode] = some resume := by
    obtain rfl | rfl := hmode <;> exact ⟨_, rfl⟩
  have hexec := h.exec_audit hparse
  refine ⟨fun hm => ?_, fun hm => ?_, fun hm => ?_, fun hm hi => ?_, fun hm hi h2 ha => ?_, fun hm hi h1 => ?_,
    fun hm hi h2 ha => ?_⟩
  · rw [hexec, applyAudit_faulted hm]; rfl
  · rw [hexec, applyAudit_held hm]; rfl
  · rw [hexec, applyAudit_busy hm]; rfl
  · rw [hexec, applyAudit_noImage hm hi]; rfl
  · subst h2
    rw [h.exec_audit rfl, applyAudit_badState hm hi ha]; rfl
  · subst h1
    rw [h.exec_audit rfl, applyAudit_accepted (resume := false) hm hi nofun]; rfl
  · subst h2
    rw [h.exec_audit rfl, applyAudit_accepted hm hi (fun _ => ha)]; rfl

/-! ## READ_AUDIT (R147) -/

theorem exec_readAudit {s : State} {p : Port} (h : s.Granted p 0x64 []) :
    exec (.readAudit p) s = .next (s.answered p (readAuditAnswer s)) :=
  congrArg Host.Outcome.next
    (exec_read (answer := fun u (_ : Unit) => readAuditAnswer u) (ident := noIdent) (parse := parseNone) h rfl rfl)

theorem exec_readAudit_bad {s : State} {p : Port} {ps : List Byte} (h : s.Granted p 0x64 ps) (hps : ps ≠ []) :
    exec (.readAudit p) s = .next (s.answered p ⟨.badParam, []⟩) := by
  have hblock : blockOk 0x64 ps = false := by
    cases ps with
    | nil => exact absurd rfl hps
    | cons => rfl
  rw [h.exec_eq rfl (by decide), commandRequest_bad (p := p) rfl (by decide) hblock]
  rfl

/-- Settles O20: the record from the sweep, and the block that carries anything refused. -/
theorem readAuditAnswersTheSweep : Obligations.ReadAuditAnswersTheSweep := by
  unfold Obligations.ReadAuditAnswersTheSweep
  intro s p ps h
  split
  · next hps =>
    subst hps
    exact exec_readAudit h
  · next hps => exact exec_readAudit_bad h hps

/-! ## A sweep in itself (R138, R140, R141) -/

/-- Positions judged. -/
def Audit.judgedCount (a : Audit) : Nat := a.matched + a.differs + a.missing + a.damaged

/-- Positions judged other than DAMAGED. -/
def Audit.keptCount (a : Audit) : Nat := a.matched + a.differs + a.missing

/-- A sweep that has begun and has not come to its end: it runs or is aborted. -/
def AuditStatus.Unfinished (x : AuditStatus) : Prop := x = .running ∨ x.resumable = true

theorem AuditStatus.unfinished_iff (x : AuditStatus) : x.Unfinished ↔ x ≠ .neverRun ∧ x ≠ .allDone := by
  cases x <;> simp [AuditStatus.Unfinished, AuditStatus.resumable]

/-- Status, pointer, counts and kept ids agree. -/
structure Audit.Consistent (a : Audit) : Prop where
  neverRun : a.status = .neverRun → a = Audit.reset
  allDone : a.status = .allDone → a.pointer = 8
  unfinished : a.status.Unfinished → a.pointer < 8 ∧ a.fresh = 0
  judged : a.judgedCount ≤ 6 * a.pointer
  kept : a.kept.length = a.keptCount

theorem Audit.reset_consistent : Audit.reset.Consistent where
  neverRun := fun _ => rfl
  allDone := nofun
  unfinished := fun h => absurd rfl ((AuditStatus.unfinished_iff _).mp h).1
  judged := Nat.le_refl 0
  kept := rfl

/-- The invariant: the sweep in itself, and that it runs exactly while the unit is AUDITING. -/
theorem State.auditInv_iff (s : State) :
    s.AuditInv ↔ (s.audit.status = .running ↔ s.mode = .auditing) ∧ s.audit.Consistent := by
  unfold State.AuditInv
  refine and_congr_right fun _ => ⟨fun ⟨hstatus, hjudged, hkept⟩ => ?_, fun h => ⟨?_, h.judged, h.kept⟩⟩
  · refine ⟨fun h => ?_, fun h => ?_, fun h => ?_, hjudged, hkept⟩
    · rwa [h] at hstatus
    · rwa [h] at hstatus
    · obtain h | h := h
      · rwa [h] at hstatus
      · obtain h | h := (AuditStatus.resumable_iff _).mp h <;> rwa [h] at hstatus
  · cases hs : s.audit.status with
    | neverRun => exact h.neverRun hs
    | allDone => exact h.allDone hs
    | running | abortedBySave | abortedByChange =>
      exact h.unfinished ((AuditStatus.unfinished_iff _).mpr (by simp [hs]))

/-- A sweep that runs is aborted, or goes on, with its pointer, counts and kept ids (R140, R145, R146). -/
theorem Audit.Consistent.withStatus {a : Audit} (ha : a.Consistent) (hfrom : a.status.Unfinished)
    {status : AuditStatus} (hto : status.Unfinished) : Audit.Consistent { a with status := status } where
  neverRun := fun h => absurd h (status.unfinished_iff.mp hto).1
  allDone := fun h => absurd h (status.unfinished_iff.mp hto).2
  unfinished := fun _ => ha.unfinished hfrom
  judged := ha.judged
  kept := ha.kept

/-- An accepted AUDIT leaves a sweep that agrees with itself: a new one, or the aborted one (R140). -/
theorem Audit.Consistent.accept {a : Audit} (ha : a.Consistent) {resume : Bool}
    (hr : resume = true → a.status.resumable = true) : (a.accept resume).Consistent := by
  cases resume with
  | true => exact ha.withStatus (.inr (hr rfl)) (.inl rfl)
  | false => exact ⟨nofun, nofun, fun _ => ⟨Nat.zero_lt_succ 7, rfl⟩, Nat.le_refl 0, rfl⟩

theorem Audit.accept_status (a : Audit) (resume : Bool) : (a.accept resume).status = .running := by
  cases resume <;> rfl

/-! ## The positions of a segment (R141, R142) -/

/-- `b` is `a` after `n` more positions: each is counted once, and kept unless it is DAMAGED. -/
structure Audit.Judges (a : Audit) (n : Nat) (b : Audit) : Prop where
  status : b.status = a.status
  fresh : b.fresh = a.fresh
  judged : b.judgedCount = a.judgedCount + n
  kept : b.kept.length + a.keptCount = a.kept.length + b.keptCount

/-- A position whose id is kept adds one to the counts other than DAMAGED. -/
theorem Audit.judges_keep (a : Audit) (id : Byte) {m d x : Nat} (h : m + d + x = a.keptCount + 1) :
    a.Judges 1 { a with lastKept := id, kept := a.kept ++ [id], matched := m, differs := d, missing := x } where
  status := rfl
  fresh := rfl
  judged := by simp only [Audit.keptCount] at h; simp only [Audit.judgedCount]; omega
  kept := by simp only [Audit.keptCount, List.length_append, List.length_singleton] at h ⊢; omega

theorem Audit.judges_judgePosition (t : List Entry) (a : Audit) (r : Option EntryRecord) :
    a.Judges 1 (Audit.judgePosition t a r) := by
  match r with
  | none => exact ⟨rfl, rfl, rfl, rfl⟩
  | some r =>
    cases hstands : stands a.lastKept (some r) with
    | false =>
      rw [Audit.judgePosition_damaged hstands]
      exact ⟨rfl, rfl, rfl, rfl⟩
    | true =>
      cases hfind : findEntry r.id t with
      | none =>
        rw [Audit.judgePosition_missing hstands hfind]
        exact a.judges_keep r.id rfl
      | some e =>
        rw [Audit.judgePosition_present hstands hfind]
        split
        · exact a.judges_keep r.id (by simp only [Audit.keptCount]; omega)
        · exact a.judges_keep r.id (by simp only [Audit.keptCount]; omega)

theorem Audit.judges_foldl (t : List Entry) (rs : List (Option EntryRecord)) (a : Audit) :
    a.Judges rs.length (rs.foldl (Audit.judgePosition t) a) := by
  induction rs generalizing a with
  | nil => exact ⟨rfl, rfl, rfl, rfl⟩
  | cons r rs ih =>
    have hfirst := Audit.judges_judgePosition t a r
    have hrest := ih (Audit.judgePosition t a r)
    refine ⟨hrest.status.trans hfirst.status, hrest.fresh.trans hfirst.fresh, ?_, ?_⟩
    · have := hfirst.judged
      have := hrest.judged
      simp only [List.foldl_cons, List.length_cons]
      omega
    · have := hfirst.kept
      have := hrest.kept
      simp only [List.foldl_cons]
      omega

/-- A segment holds at most six positions (R141). -/
theorem State.length_auditedPositions (s : State) (k : Nat) : (s.auditedPositions k).length ≤ 6 := by
  unfold State.auditedPositions
  split
  · exact List.length_take_le 6 _
  · exact Nat.zero_le 6

/-- The end of a segment: a sweep that runs goes on with the next segment, or is done after segment 7. -/
theorem State.consistent_endSegment {s : State} (ha : s.audit.Consistent) (hrun : s.audit.status = .running) :
    s.endSegment.Consistent ∧
    s.endSegment.status = if s.audit.pointer < 7 then .running else .allDone := by
  obtain ⟨hpointer, hfresh⟩ := ha.unfinished (.inl hrun)
  have hjudged := ha.judged
  have hsegment := s.length_auditedPositions s.audit.pointer
  have hj := Audit.judges_foldl s.table (s.auditedPositions s.audit.pointer) s.audit
  rw [s.endSegment_eq]
  generalize (s.auditedPositions s.audit.pointer).foldl (Audit.judgePosition s.table) s.audit = b at hj ⊢
  obtain ⟨hstatus, hnew, hcount, hkept⟩ := hj
  have hbound : b.judgedCount ≤ 6 * (s.audit.pointer + 1) := by omega
  have hids : b.kept.length = b.keptCount := by have := ha.kept; omega
  rw [hrun] at hstatus
  split
  · exact ⟨⟨fun h => (nomatch hstatus.symm.trans h), fun h => (nomatch hstatus.symm.trans h),
      fun _ => ⟨by dsimp only; omega, hnew.trans hfresh⟩, hbound, hids⟩, hstatus⟩
  · exact ⟨⟨nofun, fun _ => by dsimp only; omega,
      fun h => absurd rfl ((AuditStatus.unfinished_iff _).mp h).2, hbound, hids⟩, rfl⟩

/-! ## What is asked of the unit -/

section
variable {s t : State}

/-- A step that leaves the sweep and neither begins nor ends AUDITING. -/
theorem State.AuditInv.of_same (hs : s.AuditInv) (haudit : t.audit = s.audit)
    (hmode : t.mode = .auditing ↔ s.mode = .auditing) : t.AuditInv := by
  obtain ⟨hrun, hsweep⟩ := s.auditInv_iff.mp hs
  rw [t.auditInv_iff, haudit]
  exact ⟨hrun.trans hmode.symm, hsweep⟩

/-- No sweep runs before the step, and none after it. -/
theorem State.AuditInv.of_still (hs : s.AuditInv) (haudit : t.audit = s.audit) (hbefore : s.mode ≠ .auditing)
    (hafter : t.mode ≠ .auditing) : t.AuditInv :=
  hs.of_same haudit (iff_of_false hafter hbefore)

/-- A unit that is not AUDITING, with a sweep that agrees with itself and does not run. -/
theorem State.auditInv_of_stopped (hmode : s.mode ≠ .auditing) (hstatus : s.audit.status ≠ .running)
    (hsweep : s.audit.Consistent) : s.AuditInv :=
  s.auditInv_iff.mpr ⟨iff_of_false hstatus hmode, hsweep⟩

theorem RetentionMode.unnoted_eq_auditing (m : RetentionMode) : m.unnoted = .auditing ↔ m = .auditing := by
  cases m <;> simp [RetentionMode.unnoted]

theorem RetentionMode.removePort_eq_auditing (m : RetentionMode) (p : Port) :
    m.removePort p = .auditing ↔ m = .auditing := by
  cases m <;> simp [RetentionMode.removePort]

theorem State.SameUnit.auditInv (h : s.SameUnit t) (hs : s.AuditInv) : t.AuditInv :=
  hs.of_same h.audit (by rw [← t.mode.unnoted_eq_auditing, h.mode, s.mode.unnoted_eq_auditing])

/-- A save starts while no sweep runs. -/
theorem State.AuditInv.startSave (hs : s.AuditInv) (hm : s.mode ≠ .auditing) (requesters : PortSet)
    (causes : Causes) : (s.startSave requesters causes).AuditInv :=
  hs.of_still rfl hm nofun

/-- A running sweep is aborted (R145, R146). -/
theorem State.AuditInv.abortAudit (hs : s.AuditInv) (hm : s.mode = .auditing) {status : AuditStatus}
    (hstatus : status = .abortedBySave ∨ status = .abortedByChange) : (s.abortAudit status).AuditInv := by
  obtain ⟨hrun, hsweep⟩ := s.auditInv_iff.mp hs
  refine State.auditInv_of_stopped nofun (fun h => ?_)
    (hsweep.withStatus (.inl (hrun.mpr hm)) (.inr (status.resumable_iff.mpr hstatus)))
  obtain rfl | rfl := hstatus <;> cases h

/-- A running sweep gives way to a save (R145). -/
theorem State.AuditInv.abort_startSave (hs : s.AuditInv) (hm : s.mode = .auditing) (requesters : PortSet)
    (causes : Causes) : ((s.abortAudit .abortedBySave).startSave requesters causes).AuditInv :=
  (hs.abortAudit hm (.inl rfl)).startSave nofun requesters causes

/-- A request joins the pending save of the save in flight. -/
theorem State.AuditInv.join (hs : s.AuditInv) {sv : Save} {w : Option PendingSave} (hm : s.mode = .saving sv w)
    (x : Option PendingSave) : State.AuditInv { s with mode := .saving sv x } :=
  hs.of_still rfl (by simp [hm]) nofun

/-- Every thing asked of the unit keeps the sweep in agreement. -/
theorem State.Ask.auditInv (h : s.Ask t) (hs : s.AuditInv) : t.AuditInv := by
  cases h with
  | nothing h => exact h.auditInv hs
  | save c hm => exact hs.startSave (by simp [hm]) _ _
  | join c hm => exact hs.join hm _
  | abort hm hstatus => exact hs.abortAudit hm hstatus
  | audit hm hi hr =>
    obtain ⟨-, hsweep⟩ := s.auditInv_iff.mp hs
    exact (State.auditInv_iff _).mpr ⟨iff_of_true (s.audit.accept_status _) rfl, hsweep.accept hr⟩

theorem State.Asks.auditInv (h : s.Asks t) (hs : s.AuditInv) : t.AuditInv :=
  State.Asks.induct (P := State.AuditInv) (fun _ _ hask => hask.auditInv) h hs

/-! ## The events of the unit -/

theorem State.AuditInv.requestPortSave (hs : s.AuditInv) (p : Port) : (s.requestPortSave p).AuditInv := by
  have hanswer : ∀ a, (s.placeAnswer p a).AuditInv := fun a => (s.sameUnit_placeAnswer p a).auditInv hs
  unfold State.requestPortSave
  split
  · exact hanswer _
  · next hm =>
    split
    · exact hanswer _
    · exact hs.startSave (by simp [hm]) _ _
  · next hm =>
    split
    · exact hanswer _
    · exact hs.abort_startSave hm _ _
  · next hm =>
    split
    · exact hanswer _
    · exact hs.join hm _
  · exact hanswer _
  · exact hanswer _

theorem auditInv_execSave (p : Port) (hs : s.AuditInv) (h : execSave p s = .next t) : t.AuditInv := by
  have hgrant := (s.sameUnit_grant p).auditInv hs
  cases h
  split
  · split
    · exact hgrant.requestPortSave p
    · exact (State.sameUnit_placeAnswer _ _ _).auditInv hgrant
  · exact hs

theorem State.AuditInv.resetPort (hs : s.AuditInv) (p : Port) : (s.resetPort p).AuditInv := by
  unfold State.resetPort
  rw [State.freeProposalsOf_eq_freed]
  exact hs.of_same rfl (s.mode.removePort_eq_auditing p)

theorem auditInv_execPortReset (p : Port) (frame : ResetFrame) (hs : s.AuditInv)
    (h : execPortReset p frame s = .next t) : t.AuditInv := by
  have hport : ∀ {u : State} (x : PortUnit), u.AuditInv → (u.setPort p x).AuditInv := fun x hu =>
    (State.sameUnit_setPort _ p x).auditInv hu
  cases h
  obtain hdead | hignored | htaken := s.takeFrame_cases p _
  · rw [hdead]; exact hs
  · rw [hignored]; exact hport _ hs
  · rw [htaken]
    dsimp only
    split
    · split
      · exact (asks_effectOf _ _ _ _).auditInv ((hport _ ((s.sameUnit_grant p).auditInv hs)).resetPort p)
      · exact (hport _ hs).resetPort p
    · exact hport _ hs

/-- A part restarted has the sweep of the reset (R138). -/
theorem State.auditInv_restart (s : State) (array : PerImage Image) : (s.restart array).AuditInv :=
  State.auditInv_of_stopped nofun nofun Audit.reset_consistent

theorem auditInv_execReset (cause : ResetCause) (cut : CutPoint) (faults : List ArrayFault) (hs : s.AuditInv)
    (h : execReset cause cut faults s = .next t) : t.AuditInv := by
  cases h
  split
  · exact (State.sameUnit_ports _ _).auditInv (State.auditInv_restart _ _)
  · split
    · exact State.auditInv_restart _ _
    · exact hs.of_same rfl Iff.rfl

/-- The load ends with the sweep of the reset (R138). -/
theorem State.auditInv_finishLoad (s : State) : s.finishLoad.AuditInv := by
  refine State.auditInv_of_stopped ?_ nofun Audit.reset_consistent
  show (if s.pfwAsserted then RetentionMode.held else .idle) ≠ .auditing
  split <;> exact nofun

theorem auditInv_execLoadEnd (upTo : LoadPoint) (hs : s.AuditInv) (h : execLoadEnd upTo s = .next t) :
    t.AuditInv := by
  cases h
  split
  · dsimp only
    split
    · split
      · exact hs
      · exact s.sameUnit_buildLoad.auditInv hs
    · exact State.auditInv_finishLoad _
  · exact hs

theorem State.AuditInv.powerFails (hs : s.AuditInv) : s.powerFails.AuditInv := by
  unfold State.powerFails
  split
  · next hm => exact hs.startSave (by simp [hm]) _ _
  · next hm => exact hs.abort_startSave hm _ _
  · next hm => exact hs.join hm _
  all_goals exact hs

theorem auditInv_execPfwAssertion (hs : s.AuditInv) (h : execPfwAssertion s = .next t) : t.AuditInv := by
  have hlevel : State.AuditInv { s with pfwAsserted := true } := hs.of_same rfl Iff.rfl
  cases h
  split
  · exact hs
  · split
    · exact hlevel.powerFails
    · exact hlevel

theorem auditInv_execPfwRelease (hs : s.AuditInv) (h : execPfwRelease s = .next t) : t.AuditInv := by
  cases h
  split
  · split
    · next hm => exact hs.of_still rfl (by simp [hm]) nofun
    all_goals exact hs.of_same rfl Iff.rfl
  · exact hs

theorem auditInv_execOpenMarkingWritten (hs : s.AuditInv) (h : execOpenMarkingWritten s = .next t) : t.AuditInv := by
  cases h
  split
  · next hm =>
    split
    · exact hs.of_still rfl (by simp [hm]) nofun
    · exact hs
  all_goals exact hs

/-- The end of a save leaves the sweep and the retention state to what follows. -/
theorem State.saveSucceeds_sweep (s : State) (sv : Save) :
    (s.saveSucceeds sv).audit = s.audit ∧ (s.saveSucceeds sv).mode = s.mode := by
  unfold State.saveSucceeds
  dsimp only
  rw [State.placeAnswers_ports]
  exact ⟨rfl, rfl⟩

theorem State.saveFails_sweep (s : State) (sv : Save) :
    (s.saveFails sv).audit = s.audit ∧ (s.saveFails sv).mode = s.mode := by
  unfold State.saveFails
  rw [State.placeAnswers_ports]
  exact ⟨rfl, rfl⟩

/-- What follows a save is no sweep (R128, R129). -/
theorem State.AuditInv.afterSave (hs : s.AuditInv) (hm : s.mode ≠ .auditing) (w : Option PendingSave) :
    (s.afterSave w).AuditInv := by
  have hmode : ∀ {m : RetentionMode}, m ≠ .auditing → State.AuditInv { s with mode := m } :=
    fun hne => hs.of_still rfl hm hne
  unfold State.afterSave
  split
  · have hfaulted := hmode (m := .faulted) nofun
    dsimp only
    split
    · exact (State.SameUnit.of_frame (State.placeAnswers_ports _ _ _) (State.sameUnit_ports _ _)).auditInv hfaulted
    · exact hfaulted
  · split
    · exact hs.startSave hm _ _
    · split <;> exact hmode nofun

theorem auditInv_execSaveEnd (ok : Bool) (hs : s.AuditInv) (h : execSaveEnd ok s = .next t) : t.AuditInv := by
  cases h
  split
  · next sv w hm =>
    have hend : ∀ {u : State}, u.audit = s.audit ∧ u.mode = s.mode → (u.afterSave w).AuditInv :=
      fun ⟨haudit, hmode⟩ => (hs.of_same haudit (by rw [hmode])).afterSave (by simp [hmode, hm]) w
    split
    · exact hend (s.saveSucceeds_sweep sv)
    · exact hend (s.saveFails_sweep sv)
  all_goals exact hs

/-- A segment that ends counts its positions, and the last one ends the sweep (R141 to R144). -/
theorem auditInv_execAuditSegmentEnd (faults : List ArrayFault) (hs : s.AuditInv)
    (h : execAuditSegmentEnd faults s = .next t) : t.AuditInv := by
  obtain ⟨hrun, hsweep⟩ := s.auditInv_iff.mp hs
  cases h
  split
  · next hm =>
    obtain ⟨hended, hstatus⟩ :=
      State.consistent_endSegment (s := { s with array := failArray s.array faults }) hsweep (hrun.mpr hm)
    dsimp only at hstatus ⊢
    split
    · next hp =>
      rw [if_pos hp] at hstatus
      exact (State.auditInv_iff _).mpr ⟨iff_of_true hstatus hm, hended⟩
    · next hp =>
      rw [if_neg hp] at hstatus
      have hdone : State.AuditInv { s with
          array := failArray s.array faults, mode := .idle
          audit := State.endSegment { s with array := failArray s.array faults } } :=
        State.auditInv_of_stopped nofun (fun h => nomatch hstatus.symm.trans h) hended
      split
      · exact (State.asks_requestSave _ _).auditInv hdone
      · exact hdone
  all_goals exact hs

/-! ## Every step -/

theorem auditInv_exec (c : Instr) (hs : s.AuditInv) (h : exec c s = .next t) : t.AuditInv := by
  cases hc : movesUnit c with
  | false => exact (asks_exec hc h).auditInv hs
  | true =>
    cases c with
    | save p => exact auditInv_execSave p hs h
    | portReset p frame => exact auditInv_execPortReset p frame hs h
    | reset cause cut faults => exact auditInv_execReset cause cut faults hs h
    | loadEnd upTo => exact auditInv_execLoadEnd upTo hs h
    | pfwAssertion => exact auditInv_execPfwAssertion hs h
    | pfwRelease => exact auditInv_execPfwRelease hs h
    | saveEnd ok => exact auditInv_execSaveEnd ok hs h
    | auditSegmentEnd faults => exact auditInv_execAuditSegmentEnd faults hs h
    | lossOfPower cut => cases h; exact State.auditInv_restart _ _
    | rstNRelease selected =>
      cases h
      split
      · exact hs.of_same rfl Iff.rfl
      · exact hs
    | openMarkingWritten => exact auditInv_execOpenMarkingWritten hs h
    | _ => cases hc

end

/-- Settles O10: what is asked of the unit starts, aborts or leaves the sweep, and the end of a segment counts it on. -/
theorem stepKeepsTheAuditSweepConsistent : Obligations.StepKeepsTheAuditSweepConsistent := by
  unfold Obligations.StepKeepsTheAuditSweepConsistent
  intro s t hs hstep
  obtain ⟨-, rfl⟩ | ⟨c, rest, -, hexec⟩ := step_cases hstep
  · exact hs
  · exact auditInv_exec c (s := { s with pending := rest }) (hs.of_same rfl Iff.rfl) hexec

end Sys2Proof.Machine
end

section
/-! PROOFS. IDENTIFY (O15), and COMMAND frames in their order (O50): what a frame finds, how it is judged, and what it
leaves. -/

namespace Sys2Proof.Machine

/-! ## IDENTIFY (R164) -/

/-- What IDENTIFY answers, byte by byte (10.2.1). -/
theorem identifyAnswer_eq (p : Port) : identifyAnswer p =
    ⟨.ok, [0x4E, 0x46, 0xC0, 0x48, 1, 48, 8, 4, 3, 4, 12, (match p with | .a => 1 | .b => 2 | .c => 3)]⟩ := by
  cases p <;> rfl

theorem exec_identify {s : State} {p : Port} (h : s.Granted p 0x01 []) :
    exec (.identify p) s = .next (s.answered p (identifyAnswer p)) :=
  congrArg Host.Outcome.next
    (exec_read (answer := fun _ (_ : Unit) => identifyAnswer p) (ident := noIdent) (parse := parseNone) h rfl rfl)

theorem exec_identify_bad {s : State} {p : Port} {ps : List Byte} (h : s.Granted p 0x01 ps) (hps : ps ≠ []) :
    exec (.identify p) s = .next (s.answered p ⟨.badParam, []⟩) := by
  have hblock : blockOk 0x01 ps = false := by
    cases ps with
    | nil => exact absurd rfl hps
    | cons => rfl
  rw [h.exec_eq rfl (by decide), commandRequest_bad (p := p) rfl (by decide) hblock]
  rfl

/-- Settles O15: the codes of the part, and the block that carries anything refused. -/
theorem identifyAnswersThePart : Obligations.IdentifyAnswersThePart := by
  unfold Obligations.IdentifyAnswersThePart
  intro s p ps h
  split
  · next hps =>
    subst hps
    exact (exec_identify h).trans (congrArg (fun a => Host.Outcome.next (s.answered p a)) (identifyAnswer_eq p))
  · next hps => exact exec_identify_bad h hps

/-! ## The judgement of a COMMAND frame (R149) -/

section
variable {bytes : List Byte} {x : SlotState}

theorem judgeCommand_headless (h : bytes.length + 1 < 4) : judgeCommand bytes x = .truncated := if_pos h

theorem judgeCommand_announces_too_much (h : 4 ≤ bytes.length + 1) (hlen : 58 < (bytes.getD 2 0).toNat) :
    judgeCommand bytes x = .overlong :=
  (if_neg (Nat.not_lt.mpr h)).trans (if_pos hlen)

/-- A frame with its header and at most 58 parameters announced is judged by its length, its sum and the slot. -/
theorem judgeCommand_announced (h : 4 ≤ bytes.length + 1) (hlen : (bytes.getD 2 0).toNat ≤ 58) :
    judgeCommand bytes x =
      if bytes.length + 1 < (bytes.getD 2 0).toNat + 5 then .truncated
      else if (bytes.getD 2 0).toNat + 5 < bytes.length + 1 then .overlong
      else if 0xC3 + sum8 bytes ≠ 0 then .badCheck
      else if x ≠ .empty then .slotBusy
      else .accepted :=
  (if_neg (Nat.not_lt.mpr h)).trans (if_neg (Nat.not_lt.mpr hlen))

theorem judgeCommand_short (h : 4 ≤ bytes.length + 1) (hlen : (bytes.getD 2 0).toNat ≤ 58)
    (hshort : bytes.length + 1 < (bytes.getD 2 0).toNat + 5) : judgeCommand bytes x = .truncated := by
  rw [judgeCommand_announced h hlen, if_pos hshort]

theorem judgeCommand_long (hlen : (bytes.getD 2 0).toNat ≤ 58)
    (hlong : (bytes.getD 2 0).toNat + 5 < bytes.length + 1) : judgeCommand bytes x = .overlong := by
  rw [judgeCommand_announced (by omega) hlen, if_neg (by omega), if_pos hlong]

/-- A frame of the announced length is judged by its sum and the slot. -/
theorem judgeCommand_whole (hlen : (bytes.getD 2 0).toNat ≤ 58)
    (hwhole : bytes.length + 1 = (bytes.getD 2 0).toNat + 5) :
    judgeCommand bytes x =
      if 0xC3 + sum8 bytes ≠ 0 then .badCheck else if x ≠ .empty then .slotBusy else .accepted := by
  rw [judgeCommand_announced (by omega) hlen, if_neg (by omega), if_neg (by omega)]

end

/-! ## What a COMMAND frame leaves (R149, R150, R152) -/

section
variable {s : State} {p : Port} {bytes : List Byte} {r : FrameResult}

theorem exec_commandFrame_taken (hl : s.live = true) (hi : (s.ports.get p).ignoreFrame = false)
    (hr : judgeCommand bytes (s.ports.get p).slot.state = r) :
    exec (.commandFrame p bytes) s = .next
      { s with
        ports := s.ports.set p
          ⟨if r = .accepted then acceptCommand bytes else (s.ports.get p).slot, r, zeros bytes.length, false⟩ } := by
  show execCommandFrame p bytes s = _
  unfold execCommandFrame
  rw [State.takeFrame_taken hl hi, hr, ← hi]
  dsimp only
  split <;> rfl

/-- A frame that is not accepted leaves its result, and the slot as it was. -/
theorem exec_commandFrame_refused (hl : s.live = true) (hi : (s.ports.get p).ignoreFrame = false)
    (hr : judgeCommand bytes (s.ports.get p).slot.state = r) (hne : r ≠ .accepted) :
    exec (.commandFrame p bytes) s = .next
      { s with
        ports := s.ports.set p ⟨(s.ports.get p).slot, r, List.replicate (bytes.length + 1) 0, false⟩ } := by
  rw [exec_commandFrame_taken hl hi hr, if_neg hne]
  rfl

end

/-- The slot that a frame with these fields fills. -/
theorem acceptCommand_fields (tag code len check : Byte) {params : List Byte} (hlen : len.toNat = params.length) :
    acceptCommand ([tag, code, len] ++ params ++ [check]) = ⟨.waiting, tag, code, params, none⟩ := by
  have hparams : (params ++ [check]).take len.toNat = params := by rw [hlen, List.take_left]
  exact congrArg (fun ps : List Byte => (⟨.waiting, tag, code, ps, none⟩ : Slot)) hparams

theorem judgeCommand_accepted {tag code len check : Byte} {params : List Byte} (hlen : len.toNat = params.length)
    (hmax : params.length ≤ 58) (hsum : 0xC3 + sum8 ([tag, code, len] ++ params ++ [check]) = 0) :
    judgeCommand ([tag, code, len] ++ params ++ [check]) .empty = .accepted := by
  have hannounced : ([tag, code, len] ++ params ++ [check]).getD 2 0 = len := rfl
  rw [judgeCommand_whole (by rw [hannounced]; omega) (by rw [hannounced]; simp; omega), if_neg (not_not.mpr hsum),
    if_neg (not_not.mpr rfl)]

/-! ## Frames that are not taken (R163) -/

/-- Every frame of 9.1 goes through `takeFrame` at its port. -/
theorem exec_frame {c : Instr} {p : Port} (hc : framePort c = some p) (s : State) :
    ∃ k, exec c s = .next (s.takeFrame p k) := by
  cases c with
  | commandFrame q bytes => cases hc; exact ⟨_, rfl⟩
  | poll q n => cases hc; exact ⟨_, rfl⟩
  | fetch q n => cases hc; exact ⟨_, rfl⟩
  | portReset q frame => cases hc; exact ⟨_, rfl⟩
  | badKindFrame q kind n =>
    obtain ⟨hkind, hq⟩ := Option.ite_none_left_eq_some.mp hc
    cases hq
    cases kind with
    | none => exact ⟨_, rfl⟩
    | some k =>
      have hunknown : ¬ knownKinds.contains k = true := by
        simpa [knownKinds] using hkind
      exact ⟨_, congrArg Host.Outcome.next (if_neg hunknown)⟩
  | _ => cases hc

/-- A frame of no whole byte is taken without effect. -/
theorem exec_badKindFrame_empty {s : State} {p : Port} (hi : (s.ports.get p).ignoreFrame = false) (n : Nat) :
    exec (.badKindFrame p none n) s = .next s := by
  show Host.Outcome.next (s.takeFrame p (fun _ => s)) = _
  cases hl : s.live with
  | false => rw [State.takeFrame_dead hl]
  | true => rw [State.takeFrame_taken hl hi]

/-- Settles O50: the judgement of a COMMAND frame in its order, then the frames of every kind that are not taken. -/
theorem commandFramesAreJudgedInOrder : Obligations.CommandFramesAreJudgedInOrder := by
  unfold Obligations.CommandFramesAreJudgedInOrder
  refine ⟨fun s p bytes hl hi => ?_, fun c p s hc => ?_⟩
  · dsimp only
    refine ⟨fun h => ?_, fun h hlen => ?_, fun h hlen hshort => ?_, fun hlen hlong => ?_, fun hlen hwhole hsum => ?_,
      fun hlen hwhole hsum hslot => ?_, ?_⟩
    · exact exec_commandFrame_refused hl hi (judgeCommand_headless h) nofun
    · exact exec_commandFrame_refused hl hi (judgeCommand_announces_too_much h hlen) nofun
    · exact exec_commandFrame_refused hl hi (judgeCommand_short h hlen hshort) nofun
    · exact exec_commandFrame_refused hl hi (judgeCommand_long hlen hlong) nofun
    · exact exec_commandFrame_refused hl hi ((judgeCommand_whole hlen hwhole).trans (if_pos hsum)) nofun
    · refine exec_commandFrame_refused hl hi ?_ nofun
      rw [judgeCommand_whole hlen hwhole, if_neg (not_not.mpr hsum), if_pos hslot]
    · rintro tag code len check params rfl hlen hmax hsum hempty
      have haccepted := judgeCommand_accepted hlen hmax hsum
      rw [exec_commandFrame_taken hl hi (hempty ▸ haccepted), if_pos rfl, acceptCommand_fields tag code len check hlen]
      rfl
  · obtain ⟨k, hk⟩ := exec_frame hc s
    refine ⟨fun hl => ?_, fun hl hi => ?_, ?_⟩
    · rw [hk, State.takeFrame_dead hl]
    · rw [hk, State.takeFrame_ignored hl hi]
      rfl
    · rintro n rfl hi
      cases hc
      exact exec_badKindFrame_empty hi n

end Sys2Proof.Machine
end

section
/-! PROOFS. POLL, FETCH and frames of an unknown kind (O51): what they return on SDO_x and what they leave. -/

namespace Sys2Proof.Machine

/-! ## The bytes returned (R148, R153 to R155, R166) -/

/-- After the kind byte a controller gets the reply, and 00h when it is at its end. -/
theorem clockOut_eq (n : Nat) (bs : List Byte) : clockOut n bs = 0 :: (bs ++ List.replicate n 0).take n := by
  have hzeros : min (n - bs.length) n = n - bs.length := Nat.min_eq_left (Nat.sub_le n bs.length)
  rw [clockOut, List.take_append, List.take_replicate, hzeros]

/-- Bytes followed by the byte that brings their sum to 00h (R166). -/
def checked (body : List Byte) : List Byte := body ++ [0 - sum8 body]

theorem responseBytes_eq (a : Answer) (tag code : Byte) :
    responseBytes a tag code =
      checked ([a.status.toByte, tag, code, BitVec.ofNat 8 a.result.length] ++ a.result) := rfl

theorem length_responseBytes (a : Answer) (tag code : Byte) :
    (responseBytes a tag code).length = a.result.length + 5 := by
  simp [responseBytes]

theorem notReady_empty {x : Slot} (h : x.state = .empty) : notReady x = checked [0x02, 0, 0, 0] := by
  unfold notReady
  rw [h]
  rfl

theorem notReady_occupied {x : Slot} (h : x.state = .waiting ∨ x.state = .running) :
    notReady x = checked [0x02, x.tag, x.code, 0] := by
  unfold notReady
  obtain h | h := h <;> rw [h] <;> rfl

theorem State.partByte_eq (s : State) : s.partByte = if s.mode = .loading then 0 else 1 := by
  unfold State.partByte
  by_cases hm : s.mode = .loading
  · rw [hm]; rfl
  · rw [if_neg hm, bne_iff_ne.mpr hm]; rfl

/-- The summary field by field (10.1.1). -/
theorem State.summary_eq (s : State) (p : Port) (u : PortUnit) :
    s.summary p u = checked
      [if s.mode = .loading then 0 else 1, u.slot.state.toByte, u.slot.tag, u.frameResult.toByte,
       (s.notices.get p).state.toByte, s.verdict.toByte, s.verdictSeq.extractLsb' 8 8,
       s.verdictSeq.extractLsb' 0 8] := by
  rw [← s.partByte_eq]
  rfl

/-! ## The frames, taken -/

section
variable {s : State} {p : Port} (hl : s.live = true) (hi : (s.ports.get p).ignoreFrame = false) (n : Nat)

include hl hi

theorem exec_poll_taken : exec (.poll p n) s =
    .next (s.setPort p { s.ports.get p with reply := clockOut n (s.summary p (s.ports.get p)) }) := by
  show execPoll p n s = _
  rw [execPoll, State.takeFrame_taken hl hi]

/-- The response of a DONE slot: the slot is emptied if the response was clocked out whole (R154). -/
theorem exec_fetch_done {a : Answer} (hdone : (s.ports.get p).slot.state = .done)
    (ha : (s.ports.get p).slot.response = some a) :
    let u := s.ports.get p
    exec (.fetch p n) s = .next (s.setPort p
      { u with
        reply := clockOut n (responseBytes a u.slot.tag u.slot.code)
        slot := if a.result.length + 5 ≤ n then { Slot.reset with tag := u.slot.tag } else u.slot }) := by
  show execFetch p n s = _
  simp only [execFetch, State.takeFrame_taken hl hi, hdone, ha, length_responseBytes]

/-- A slot that is not DONE gives NOT_READY (R155). -/
theorem exec_fetch_notReady (hne : (s.ports.get p).slot.state ≠ .done) :
    exec (.fetch p n) s =
      .next (s.setPort p { s.ports.get p with reply := clockOut n (notReady (s.ports.get p).slot) }) := by
  show execFetch p n s = _
  rw [execFetch, State.takeFrame_taken hl hi]
  split
  · next hdone _ => exact absurd hdone hne
  · rfl

theorem exec_badKindFrame_taken {kind : Byte} (hkind : kind ∉ [(0xC3 : Byte), 0xA5, 0x5A, 0x99]) :
    exec (.badKindFrame p (some kind) n) s =
      .next (s.setPort p { s.ports.get p with frameResult := .badKind, reply := zeros n }) := by
  have hunknown : ¬ knownKinds.contains kind = true := by rwa [List.contains_iff_mem]
  show execBadKindFrame p (some kind) n s = _
  simp only [execBadKindFrame, if_neg hunknown, State.takeFrame_taken hl hi]

end

/-- Settles O51: what each frame returns and leaves, then the codes. -/
theorem pollFetchAndUnknownKinds : Obligations.PollFetchAndUnknownKinds := by
  unfold Obligations.PollFetchAndUnknownKinds
  refine ⟨fun s p n hl hi => ?_, by decide, by decide, by decide, by decide⟩
  dsimp only
  refine ⟨?_, fun a hdone ha hwhole => ?_, fun a hdone ha hcut => ?_, fun hoccupied => ?_, fun hempty => ?_,
    fun kind hkind => ?_⟩
  · rw [exec_poll_taken hl hi, clockOut_eq, State.summary_eq]
    rfl
  · rw [exec_fetch_done hl hi n hdone ha, if_pos hwhole, clockOut_eq, responseBytes_eq]
    rfl
  · rw [exec_fetch_done hl hi n hdone ha, if_neg (Nat.not_le.mpr hcut), clockOut_eq, responseBytes_eq]
    rfl
  · have hne : (s.ports.get p).slot.state ≠ .done := by
      obtain h | h := hoccupied <;> rw [h] <;> nofun
    rw [exec_fetch_notReady hl hi n hne, clockOut_eq, notReady_occupied hoccupied]
    rfl
  · have hne : (s.ports.get p).slot.state ≠ .done := by rw [hempty]; nofun
    rw [exec_fetch_notReady hl hi n hne, clockOut_eq, notReady_empty hempty]
    rfl
  · exact exec_badKindFrame_taken hl hi n hkind

end Sys2Proof.Machine
end

section
/-! PROOFS. No command and no event touches the queue of waiting commands (O2): each part of a step leaves it, and so
does every step. -/

namespace Sys2Proof.Machine

/-! ## Frames of a step, read at the queue -/

section
variable {s t : State}

/-- A step that leaves `u` leaves the queue of `u`. -/
theorem State.pending_of_frame {u : State} (h : t = u) (hu : u.pending = s.pending) : t.pending = s.pending :=
  (congrArg State.pending h).trans hu

theorem State.Regrades.pending (h : s.Regrades t) : t.pending = s.pending := State.pending_of_frame h.frame rfl

theorem EntryOutcome.pending {c : Instr} {p : Port} (h : EntryOutcome c p s t) : t.pending = s.pending :=
  State.pending_of_frame h.frame rfl

theorem EventOutcome.pending (h : EventOutcome s t) : t.pending = s.pending := State.pending_of_frame h.frame rfl

theorem SettingOutcome.pending {c : Instr} {p : Port} (h : SettingOutcome c p s t) : t.pending = s.pending :=
  State.pending_of_frame h.frame rfl

theorem State.SaveMoves.pending (h : s.SaveMoves t) : t.pending = s.pending := State.pending_of_frame h.frame rfl

theorem State.UnitMoves.pending (h : s.UnitMoves t) : t.pending = s.pending := State.pending_of_frame h rfl

theorem State.OwnUnit.pending {p : Port} (h : s.OwnUnit p t) : t.pending = s.pending :=
  State.pending_of_frame h.frame rfl

theorem State.pending_of_timed (h : t = s.withTimedUnit t) : t.pending = s.pending := State.pending_of_frame h rfl

end

/-! ## The operations on proposals -/

theorem State.closeProposal_pending (s : State) (k : Fin 4) (o : ProposalOutcome) :
    (s.closeProposal k o).pending = s.pending := by
  unfold State.closeProposal
  split <;> rfl

theorem State.discardOpen_pending (s : State) : s.discardOpen.pending = s.pending := by
  unfold State.discardOpen
  induction s.madeOrder generalizing s with
  | nil => rfl
  | cons k ks ih =>
    rw [List.foldl_cons, ih]
    split
    · exact s.closeProposal_pending k .discarded
    · rfl

theorem State.resetPort_pending (s : State) (p : Port) : (s.resetPort p).pending = s.pending := by
  unfold State.resetPort
  rw [State.freeProposalsOf_eq_freed]
  rfl

/-! ## The commands of 10.2 -/

theorem applyRetire_pending (id : Byte) (s : State) : (applyRetire id s).1.pending = s.pending := by
  unfold applyRetire
  split
  · rfl
  · exact ((State.regrades_definitionChange _).trans (State.regrades_recompute _ _)).pending

theorem applySetWindow_pending (x : SetWindowParams) (s : State) : (applySetWindow x s).1.pending = s.pending := by
  unfold applySetWindow
  dsimp only
  split <;> rfl

theorem applyJoinPair_pending (x : Fin 4 × Bool) (s : State) : (applyJoinPair x s).1.pending = s.pending := by
  obtain ⟨k, on⟩ := x
  rw [applyJoinPair_eq]
  split
  · rfl
  · split <;> rfl

theorem applyBind_pending (x : BindParams) (s : State) : (applyBind x s).1.pending = s.pending := by
  unfold applyBind
  split
  · rfl
  · split
    · rfl
    · split <;> rfl

theorem applyHeldWith_pending {α : Type} {s : State} {ident : List Byte → List Byte} {parse : List Byte → Option α}
    {apply : α → State → State × Answer} (ps : List Byte) (h : ∀ x, (apply x s).1.pending = s.pending) :
    (applyHeldWith ident parse apply ps s).1.pending = s.pending := by
  unfold applyHeldWith
  split
  · exact h _
  · rfl

/-- The command that a proposal holds (R104). -/
theorem applyHeld_pending (code : StructuralCode) (ps : List Byte) (s : State) :
    (applyHeld code ps s).1.pending = s.pending := by
  cases code with
  | define => exact applyHeldWith_pending ps (fun x => (regrades_applyDefine x s).pending)
  | retire => exact applyHeldWith_pending ps (fun id => applyRetire_pending id s)
  | tune => exact applyHeldWith_pending ps (fun x => (regrades_applyTune x s).pending)
  | clear => exact applyHeldWith_pending ps (fun id => (regrades_applyClear id s).pending)
  | setWindow => exact applyHeldWith_pending ps (fun x => applySetWindow_pending x s)
  | joinPair => exact applyHeldWith_pending ps (fun x => applyJoinPair_pending x s)
  | bindInput => exact applyHeldWith_pending ps (fun x => applyBind_pending x s)
  | startWindow | stopWindow | presetWindow | setAutosave | unfreeze => exact applyHeldWith_pending ps (fun _ => rfl)

theorem State.confirmProposal_pending (s : State) (k : Fin 4) (q : Proposal) :
    (s.confirmProposal k q).1.pending = s.pending := by
  refine Eq.trans ?_ (applyHeld_pending q.code q.params s)
  unfold State.confirmProposal
  dsimp only
  split
  · rw [State.discardOpen_pending, State.closeProposal_pending]
  · exact State.closeProposal_pending _ _ _

theorem applyConfirm_pending (p : Port) (n : Word16) (s : State) : (applyConfirm p n s).1.pending = s.pending := by
  unfold applyConfirm
  split
  · rfl
  · split
    · rfl
    · split
      · rfl
      · split
        · rfl
        · exact s.confirmProposal_pending _ _

theorem applyWithdraw_pending (p : Port) (n : Word16) (s : State) : (applyWithdraw p n s).1.pending = s.pending := by
  unfold applyWithdraw
  split
  · rfl
  · split
    · rfl
    · split
      · rfl
      · split
        · exact s.closeProposal_pending _ _
        · rfl

theorem applyReadProposal_pending (p : Port) (n : Word16) (s : State) :
    (applyReadProposal p n s).1.pending = s.pending := by
  unfold applyReadProposal
  split
  · rfl
  · split
    · rfl
    · split
      · rfl
      · dsimp only
        split <;> rfl

theorem State.direct_pending {α : Type} {s : State} {ident : List Byte → List Byte} {parse : List Byte → Option α}
    {apply : α → State → State × Answer} (ps : List Byte) (h : ∀ x, (apply x s).1.pending = s.pending) :
    (s.direct ident parse apply ps).1.pending = s.pending := by
  unfold State.direct
  split
  · rfl
  · exact h _

/-- The request of every command of 10.2, by the family the command is of. -/
theorem commandRequest_pending (c : Instr) (ps : List Byte) (s : State) :
    (commandRequest c ps s).1.pending = s.pending := by
  cases c with
  | define p | retire p | tune p | clear p | report p =>
    exact (entryOutcome_commandRequest (p := p) (by simp) ps s).pending
  | setWindow p | joinPair p | startWindow p | stopWindow p | presetWindow p | bindInput p | setAutosave p | freeze p
  | unfreeze p =>
    exact (settingOutcome_commandRequest (p := p) (by simp [windowAndSettingCommands]) ps s).pending
  | ack p =>
    obtain ⟨n, hn⟩ := commandRequest_notice (c := .ack p) (p := p) (by simp) ps s
    exact State.pending_of_frame hn rfl
  | setNotice p =>
    obtain ⟨n, hn⟩ := commandRequest_notice (c := .setNotice p) (p := p) (by simp) ps s
    exact State.pending_of_frame hn rfl
  | audit p =>
    obtain ⟨m, a, hma⟩ := commandRequest_audit p ps s
    exact State.pending_of_frame hma rfl
  | confirm p => exact State.direct_pending ps (fun n => applyConfirm_pending p n s)
  | withdraw p => exact State.direct_pending ps (fun n => applyWithdraw_pending p n s)
  | readProposal p => exact State.direct_pending ps (fun n => applyReadProposal_pending p n s)
  | identify p | readEntry p | list p | readVerdict p | readHistory p | readWindow p | readInput p | readRetention p
  | readAudit p =>
    exact congrArg State.pending (commandRequest_reads (p := p) (by simp [readingCommands]) ps s)
  | _ => rfl

theorem takeCommand_commandRequest_pending (s : State) (c : Instr) (p : Port) (test : Byte → Bool) :
    (s.takeCommand p test (commandRequest c)).pending = s.pending := by
  obtain h | ⟨ps, x, h⟩ := s.takeCommand_cases p test (commandRequest c)
  · rw [h]
  · rw [h]; exact commandRequest_pending c ps (s.grant p)

section
variable {s t : State}

theorem execSave_pending {p : Port} (h : execSave p s = .next t) : t.pending = s.pending := by
  cases h
  split
  · split
    · rw [State.requestPortSave_frame]; rfl
    · rw [State.placeAnswer_ports]; rfl
  · rfl

theorem exec_command_pending {c : Instr} {p : Port} {code : Byte} (hc : portAndCode c = some (p, code))
    (h : exec c s = .next t) : t.pending = s.pending := by
  by_cases hsave : code = 0x60
  · obtain rfl := eq_save_of_code (hsave ▸ hc)
    exact execSave_pending h
  · rw [exec_command hc hsave] at h
    cases h
    exact takeCommand_commandRequest_pending s c p _

/-! ## Frames, resets and the load -/

theorem effectOf_pending (p : Port) (code : Byte) (ps : List Byte) (s : State) :
    (effectOf p code ps s).pending = s.pending := by
  obtain h | ⟨c, -, -, h⟩ := effectOf_cases p code ps s <;> rw [h]
  exact commandRequest_pending c ps s

theorem execPortReset_pending {p : Port} {frame : ResetFrame} (h : execPortReset p frame s = .next t) :
    t.pending = s.pending := by
  cases h
  unfold State.takeFrame
  dsimp only
  split
  · split
    · rfl
    · split
      · split
        · rw [effectOf_pending, State.resetPort_pending]; rfl
        · rw [State.resetPort_pending]; rfl
      · rfl
  · rfl

theorem execReset_pending {cause : ResetCause} {cut : CutPoint} {faults : List ArrayFault}
    (h : execReset cause cut faults s = .next t) : t.pending = s.pending := by
  cases h
  cases cause with
  | powerOn selected => rfl
  | rstN => dsimp only; split <;> rfl

theorem State.buildLoad_pending (s : State) : s.buildLoad.pending = s.pending := by
  have hload : s.loadImage.pending = s.pending := State.pending_of_frame s.loadImage_frame rfl
  refine Eq.trans ?_ hload
  show s.loadImage.loadVerdict.pending = _
  unfold State.loadVerdict
  dsimp only
  split <;> rfl

theorem execLoadEnd_pending {upTo : LoadPoint} (h : execLoadEnd upTo s = .next t) : t.pending = s.pending := by
  have hbuilt : (if s.loadBuilt then s else s.buildLoad).pending = s.pending := by
    split
    · rfl
    · exact s.buildLoad_pending
  cases h
  split
  · cases upTo with
    | record => exact hbuilt
    | ready => exact hbuilt
  · rfl

/-! ## Event inputs, expiries and the release of RST_N -/

theorem execEventInputEdge_pending {i : Fin 4} {soon : Bool} (h : execEventInputEdge i soon s = .next t) :
    t.pending = s.pending := by
  cases h
  split
  · rfl
  · split
    · rfl
    · split
      · rfl
      · split
        · rfl
        · split <;> rfl

theorem execEventInputReturn_pending {i : Fin 4} (h : execEventInputReturn i s = .next t) : t.pending = s.pending := by
  cases h
  split <;> split <;> rfl

theorem execFilterWidthElapsed_pending {i : Fin 4} (h : execFilterWidthElapsed i s = .next t) :
    t.pending = s.pending := by
  cases h
  split <;> rfl

theorem execUptimeSecond_pending (h : execUptimeSecond s = .next t) : t.pending = s.pending := by
  cases h
  split <;> rfl

theorem execProposalExpiry_pending {k : Fin 4} (h : execProposalExpiry k s = .next t) : t.pending = s.pending := by
  cases h
  split
  · split
    · exact s.closeProposal_pending k .expired
    · rfl
  · rfl

theorem execRstNRelease_pending {selected : PortSet} (h : execRstNRelease selected s = .next t) :
    t.pending = s.pending := by
  cases h
  split <;> rfl

/-! ## Every command and event -/

theorem exec_pending (c : Instr) (h : exec c s = .next t) : t.pending = s.pending := by
  cases hc : portAndCode c with
  | some x => exact exec_command_pending (p := x.1) (code := x.2) hc h
  | none =>
    cases c with
    | unknownCommand p => cases h; exact takeCommand_commandRequest_pending s (.unknownCommand p) p _
    | commandFrame p bytes => cases h; exact (State.ownUnit_takeFrame (fun u => s.ownUnit_setPort p _)).pending
    | poll p n => cases h; exact (State.ownUnit_takeFrame (fun u => s.ownUnit_setPort p _)).pending
    | fetch p n => exact (ownUnit_execFetch h).pending
    | portReset p frame => exact execPortReset_pending h
    | badKindFrame p kind n => exact (ownUnit_execBadKindFrame h).pending
    | reset cause cut faults => exact execReset_pending h
    | loadEnd upTo => exact execLoadEnd_pending h
    | pfwAssertion => exact State.pending_of_timed (timed_execPfwAssertion h)
    | pfwRelease => exact State.pending_of_timed (timed_execPfwRelease h)
    | tick => exact State.pending_of_frame (execTick_frame h).1 rfl
    | uptimeSecond => exact execUptimeSecond_pending h
    | proposalExpiry k => exact execProposalExpiry_pending h
    | intervalTimerExpiry => exact State.pending_of_timed (timed_execIntervalTimerExpiry h)
    | eventInputEdge i soon => exact execEventInputEdge_pending h
    | eventInputReturn i => exact execEventInputReturn_pending h
    | filterWidthElapsed i => exact execFilterWidthElapsed_pending h
    | pulseFold i => exact (eventOutcome_execPulseFold h).pending
    | windowTickDecrement w => exact State.pending_of_frame (execWindowTickDecrement_frame h).1 rfl
    | windowEventDecrement n => exact State.pending_of_frame (execWindowEventDecrement_frame h).1 rfl
    | windowClose w => exact (eventOutcome_execWindowClose h).pending
    | earlyLook w => exact (eventOutcome_execEarlyLook h).pending
    | saveEnd ok => exact (saveMoves_execSaveEnd h).1.pending
    | auditSegmentEnd faults => exact (unitMoves_execAuditSegmentEnd h).pending
    | lossOfPower cut => cases h; rfl
    | rstNRelease selected => exact execRstNRelease_pending h
    | openMarkingWritten => exact (unitMoves_execOpenMarkingWritten h).pending
    | _ => cases hc

end

/-- No command faults and none is refused. -/
theorem exec_next (c : Instr) (s : State) : ∃ t, exec c s = .next t := by
  cases c <;> exact ⟨_, rfl⟩

/-- Settles O2: a next state always, with the queue it was given. -/
theorem everyCommandAnswersANextState : Obligations.EveryCommandAnswersANextState := by
  unfold Obligations.EveryCommandAnswersANextState
  intro c s
  obtain ⟨t, ht⟩ := exec_next c s
  exact ⟨t, ht, exec_pending c ht⟩

end Sys2Proof.Machine
end
